-- ==== Sys2Proof/Word.lean ====
section
/-! DEFINITION. The words of the LK340: bytes, sequence numbers, credit counters and the numbers that name ports, links and
channels (spec/00_scope.md 4.1, 4.2). -/

namespace Sys2Proof

/-- One byte, as a host or a peer sees it (R166). -/
abbrev Byte := BitVec 8

/-- A sequence number, counted modulo 32 (R50). -/
abbrev Seq := BitVec 5

/-- A cumulative credit counter, counted modulo 256 (Table 1-2). -/
abbrev Credit := BitVec 8

/-- A 16-bit link counter, wrapping from 65535 to 0 (R49). -/
abbrev Counter := BitVec 16

/-- A host slot, the number of a host port. -/
abbrev Slot := Fin 3

/-- A link, the number of its engine and line port. -/
abbrev LinkId := Fin 2

/-- A channel id, of a record of the LK340 or of a channel of the peer (R1). -/
abbrev ChanId := Fin 32

end Sys2Proof
end

