-- ==== Sys2Proof/Syntax.lean ====
section
/-! DEFINITION. The commands of the LK340: one constructor for each row of spec/opcode_table.json. The table gives its rows
no operand fields; the operands are the port or link concerned and what the step brings with it (log entry 6). -/

namespace Sys2Proof

/-- The steps of the part. In the host requests `body` is the body bytes that arrived before chip select rose (R154); `clocked`
is the number of complete bytes clocked after the last row of the same transaction and before chip select rose. `len` is the pair of
length bytes in the order in which they arrive. `levels` are the levels of LRXDn, one for each bit time from the end of the character before to the end of the character received (R138). -/
inductive Instr where
  -- host requests, taken at the end of their write transaction (R154)
  | attach (p : Slot) (body : List Byte)
  | detach (p : Slot) (body : List Byte)
  | linkStart (p : Slot) (body : List Byte)
  | linkStop (p : Slot) (body : List Byte)
  | linkClaim (p : Slot) (body : List Byte)
  | linkQuery (p : Slot) (body : List Byte)
  | chListen (p : Slot) (body : List Byte)
  | chOpen (p : Slot) (body : List Byte)
  | chClose (p : Slot) (body : List Byte)
  | chRelease (p : Slot) (body : List Byte)
  | chQuery (p : Slot) (body : List Byte)
  | send (p : Slot) (body : List Byte)
  | recv (p : Slot) (body : List Byte)
  | poolQuery (p : Slot) (body : List Byte)
  | unknownCommand (p : Slot) (body : List Byte)
  -- transactions
  | transactionCode (p : Slot) (code : Byte)
  | statusTransaction (p : Slot) (clocked : Nat)
  | writeRequestHeader (p : Slot) (tag code : Byte) (len : Byte × Byte)
  | readResponse (p : Slot) (clocked : Nat)
  | readEvent (p : Slot) (clocked : Nat)
  -- resets
  | hostPortReset (p : Slot)
  | hostPortResetRelease (p : Slot)
  | deviceReset
  | deviceResetRelease
  -- line port
  | lineReadyDeasserted (l : LinkId)
  | frameBodyStart (l : LinkId) (b : Byte)
  | frameEnd (l : LinkId)
  | transmitComplete (l : LinkId)
  | truncationComplete (l : LinkId)
  -- frames taken by the link engine from the oldest held receive buffer (R146)
  | linkOpen (l : LinkId)
  | linkAccept (l : LinkId)
  | linkClose (l : LinkId)
  | linkClosed (l : LinkId)
  | status (l : LinkId)
  | resend (l : LinkId)
  | data (l : LinkId)
  | chanOpen (l : LinkId)
  | chanAccept (l : LinkId)
  | chanRefuse (l : LinkId)
  | chanClose (l : LinkId)
  | chanClosed (l : LinkId)
  | chanCredit (l : LinkId)
  -- timers
  | tAckExpiry (l : LinkId)
  | tRespExpiry (l : LinkId)
  | tIdleExpiry (l : LinkId)
  -- transactions and line, continued in the table's order
  | chipSelectFalls (p : Slot)
  | ignoredTransactionEnd (p : Slot) (clocked : Nat)
  | huntDelimiter (l : LinkId)
  | bodyCharacter (l : LinkId) (levels : List Bool)
  | lineReadyAsserted (l : LinkId)
  deriving DecidableEq, Repr

end Sys2Proof
end

