-- ==== Sys2Proof/Decode.lean ====
section
/-! DEFINITION. The commands that a word spells. spec/opcode_table.json gives no row any bits (every "fields" is empty), so
no word spells a command; the byte codes of the host requests and line frames are read where the part reads them
(Machine/Operands.lean, Machine/LineFormat.lean). -/

namespace Sys2Proof

/-- No row of the table gives bits: no word spells a command (log entry 20). -/
def decodeTableWord (_nbits _w : Nat) : Option Instr := none

end Sys2Proof
end

