-- ==== Sys2Proof/Config.lean ====
section
/-! DEFINITION. What the part fixes once and for all, and the one free value of the model. -/

namespace Sys2Proof

/-- The number of blocks of the pool (R87). -/
def Config.poolBlocks : Nat := 1024

/-- The bytes of a block (R87). -/
def Config.blockBytes : Nat := 64

/-- The TX blocks that may be charged to one host slot (R91). -/
def Config.quota : Nat := 192

/-- The greatest message length in bytes (R106). -/
def Config.maxMessage : Nat := 1024

/-- The messages a send queue may hold (R111). -/
def Config.sendQueueMax : Nat := 16

/-- The responses a response queue may hold (R153). -/
def Config.responseMax : Nat := 8

/-- The ordinary records an event queue may hold (R162). -/
def Config.eventMax : Nat := 31

/-- The bytes of the longest frame body, CRC included (R142). -/
def Config.bodyMax : Nat := 1033

/-- The receive frame buffers of a line port (R143). -/
def Config.receiveBuffers : Nat := 2

/-- FREE VALUE (log entry 3). Where several timers expire on one tick, their claims may be taken in any order (R72): this
constant, applied to State.freeCount, places each expiry among the others. It has no body, so nothing can be proved of it. -/
opaque Config.claimOrder : Nat → Nat

end Sys2Proof
end

