-- ==== Sys2Proof/Machine/State.lean ====
section
/-! DEFINITION. The state of the LK340, block by block (Table 0-2), as plain data, and its value right after device reset.
A field that the spec makes absent in some state of its record is held as none, or as the zero that a query reads there
(R1, R26; log entry 14). -/

namespace Sys2Proof.Machine

/-! ## Codes (section 10.4) -/

/-- Reasons (Table 10-12). Code 0, no reason, is `none` where a reason may be missing. -/
inductive Reason where
  | stopped | peerStopped | retryExhausted | lineLost | protocolError | peerRestart
  | closed | peerClosed | peerAborted | noListener | busy | noBuffer | violation
  deriving DecidableEq, Repr

/-- Result codes of a response (Table 10-15). -/
inductive Result where
  | ok | notAttached | badState | badArg | unknown | length | inUse | noChannel
  | notOwner | linkNotUp | notController | noBuffer | quota | tooLarge | queueFull | empty
  deriving DecidableEq, Repr

/-- Event kinds (Table 9-4). -/
inductive EventKind where
  | linkUp | linkDown | linkReset | linkVacant | chOpened | chEnded | chFreed | msgArrived | msgSent | overflow
  deriving DecidableEq, Repr

/-- Channel states (Table 1-3). `opened` is OPEN. -/
inductive ChState where
  | free | listen | opening | opened | closing | ended | aborting
  deriving DecidableEq, Repr

/-- Link states (Table 2-4). -/
inductive LinkState where
  | down | listening | starting | up | stopping | failed
  deriving DecidableEq, Repr

/-- The transmit priority class of a channel (Table 0-3). -/
inductive ChClass where
  | normal | urgent
  deriving DecidableEq, Repr

/-- The start mode of a link (Table 2-3). -/
inductive StartMode where
  | active | passive
  deriving DecidableEq, Repr

/-! ## Messages (R106, R107) -/

/-- A transmit message that a SEND has queued: its slot, the fields of the request body and its bytes (R106). -/
structure TxMsg where
  slot : Slot
  channel : ChanId
  tag : Byte
  notify : Bool
  payload : List Byte
  deriving DecidableEq, Repr

/-- A received message (R107). -/
structure RxMsg where
  channel : ChanId
  payload : List Byte
  deriving DecidableEq, Repr

/-! ## The channel table (chapter 1) -/

/-- The owed set of a record (R22). CLOSE, when owed, carries its abort marker. -/
structure Owed where
  opn : Bool := false
  accept : Bool := false
  credit : Bool := false
  close : Option Bool := none
  deriving DecidableEq, Repr

/-- A channel record (Table 1-2). The remote id `none` is ANY. The default value is a FREE record, which holds nothing else. -/
structure Chan where
  state : ChState := .free
  owner : Slot := 0
  link : LinkId := 0
  remote : Option ChanId := none
  cls : ChClass := .normal
  rxWindow : Nat := 0
  peerWindow : Nat := 0
  txLimit : Credit := 0
  txUsed : Credit := 0
  rxGranted : Credit := 0
  rxConsumed : Credit := 0
  rxHeld : Nat := 0
  owed : Owed := {}
  closeSent : Bool := false
  endReason : Option Reason := none
  refusedAttempts : Nat := 0
  sendQ : List TxMsg := []
  recvQ : List RxMsg := []
  deriving DecidableEq, Repr

/-! ## The buffer manager (chapter 5) -/

/-- The counts the buffer manager keeps (R87, R88, R91, R101). The TX count is the sum of the three usages (R91). -/
structure Pool where
  free : Nat := Config.poolBlocks
  rx : Nat := 0
  usage : Vector Nat 3 := Vector.replicate 3 0
  reserved : Nat := 0
  creditOwed : List ChanId := []
  deriving DecidableEq, Repr

/-! ## Frames (chapter 10) -/

/-- A channel frame other than DATA, with its fields after src (Table 10-4). -/
inductive Ctl where
  | opn (window : Nat)
  | accept (window : Nat)
  | refuse (reason : Reason)
  | close (abort : Bool)
  | closed
  | credit (limit : Credit)
  deriving DecidableEq, Repr

/-- The content of a sequenced frame. -/
inductive Content where
  | data (payload : List Byte)
  | ctl (c : Ctl)
  deriving DecidableEq, Repr

/-- A frame with its fields, without CRC (Tables 10-3, 10-4). -/
inductive Frame where
  | linkOpen (sender : Byte) (window : Nat)
  | linkAccept (echoed sender : Byte) (window : Nat)
  | linkClose
  | linkClosed
  | status (nr : Seq) (poll answer : Bool)
  | resend (nr : Seq)
  | seq (ns nr : Seq) (dst src : ChanId) (content : Content)
  deriving DecidableEq, Repr

/-! ## The link engine (chapters 2 to 4) -/

/-- The parameters of a session (Table 2-3). -/
structure Params where
  mode : StartMode
  windowOffer : Nat
  rateCode : Nat
  tAck : Nat
  tResp : Nat
  tIdle : Nat
  nRetry : Nat
  deriving DecidableEq, Repr

/-- What a retransmission list entry keeps of its frame: the message of a DATA frame, or the snapshot of a channel frame (R51). -/
inductive EntryBody where
  | data (m : TxMsg)
  | ctl (c : Ctl)
  deriving DecidableEq, Repr

/-- An entry of the retransmission list (R51). -/
structure Entry where
  ns : Seq
  localCh : ChanId
  peerCh : ChanId
  body : EntryBody
  deriving DecidableEq, Repr

/-- The state of a go-back pass (R64). -/
structure GoBack where
  pointer : Seq
  start : Seq
  deriving DecidableEq, Repr

/-- The owed supervisory set (R52). -/
structure OwedSup where
  answer : Bool := false
  poll : Bool := false
  ack : Bool := false
  resend : Bool := false
  deriving DecidableEq, Repr

/-- The owed link frames (R47). -/
structure OwedLink where
  closed : Bool := false
  close : Bool := false
  accept : Bool := false
  opn : Bool := false
  deriving DecidableEq, Repr

/-- An entry of the answer list (R80): of kind REFUSE with its reason, or of kind CLOSED (`refuse` is none). -/
structure Answer where
  refuse : Option Reason
  peerCh : ChanId
  ourCh : ChanId
  deriving DecidableEq, Repr

/-- The nine counters of a link (R49). -/
structure Counters where
  framesSent : Counter := 0
  goodFrames : Counter := 0
  retransmissions : Counter := 0
  crcErrors : Counter := 0
  formatErrors : Counter := 0
  overruns : Counter := 0
  outOfSequence : Counter := 0
  stray : Counter := 0
  violations : Counter := 0
  deriving DecidableEq, Repr

/-- A link record (Table 2-2). A timer is none when stopped, and holds its remaining milliseconds when running (R26). The default
value is the record after device reset (R27). -/
structure Link where
  state : LinkState := .down
  params : Option Params := none
  ownEpoch : Byte := 0
  peerEpoch : Option Byte := none
  agreed : Option Nat := none
  vs : Seq := 0
  va : Seq := 0
  vr : Seq := 0
  rtx : List Entry := []
  goBack : Option GoBack := none
  pollOutstanding : Bool := false
  ackPending : Bool := false
  resendSent : Bool := false
  owedSup : OwedSup := {}
  ready : List ChanId := []
  answers : List Answer := []
  rrUrgent : ChanId := 31
  rrNormal : ChanId := 31
  retry : Nat := 0
  owedLink : OwedLink := {}
  tAck : Option Nat := none
  tResp : Option Nat := none
  tIdle : Option Nat := none
  controller : Option Slot := none
  lastReason : Option Reason := none
  counters : Counters := {}
  deriving DecidableEq, Repr

/-! ## The line port (chapter 8) -/

/-- The state of a receiver (section 8.3); `stopped` is the receiver of a disabled port (R137). -/
inductive RxState where
  | stopped | hunt | gap | body | escape
  deriving DecidableEq, Repr

/-- The transmit frame buffer when occupied (R140, R141): the copy of the frame, the character boundaries passed on LTXDn since it was
handed over, at the first of which its first character was begun, and, when a teardown has cut it off, how many of its characters had
been begun then. -/
structure TxSlot where
  frame : Frame
  begun : Nat := 0
  cut : Option Nat := none
  deriving DecidableEq, Repr

/-- A line port. Of its two receive frame buffers, `filling` is the one claimed by the frame being received, with the body bytes
stored so far, and `held` are those holding good frames, in the order of their reports (R143, R146; log entry 9). `rxWait` says that
the receiver waits for the marking level after a framing error (R138; log entry 25), `charRate` at which rate the character in progress on
LTXDn is sent, `phase` how many hundredths of it had been sent at the last tick, and `lrdy` that LRDYn is asserted (log entry 15). The
default value is the port after device reset (R137), with LRDYn asserted (log entry 1). -/
structure LinePort where
  enabled : Bool := false
  rate : Option Nat := none
  rx : RxState := .stopped
  rxWait : Bool := false
  filling : Option (List Byte) := none
  held : List Frame := []
  tx : Option TxSlot := none
  charRate : Option Nat := none
  phase : Nat := 0
  lrdy : Bool := true
  lineReady : Option Bool := none
  deriving DecidableEq, Repr

/-! ## The host port unit (chapter 9) -/

/-- The session of a port (R149). -/
inductive Session where
  | detached | attached | reset
  deriving DecidableEq, Repr

/-- A response waiting in a response queue (R149). A RECV response holds its message, whose bytes follow the body at a read (R168). -/
structure Response where
  tag : Byte
  code : Byte
  result : Result
  body : List Byte
  msg : Option RxMsg
  deriving DecidableEq, Repr

/-- An event record (R149). A reason `none` is code 0. -/
structure Event where
  kind : EventKind
  link : LinkId
  channel : ChanId
  reason : Option Reason
  arg : Nat
  deriving DecidableEq, Repr

/-- The header of a request being written (section 9.3). -/
structure ReqHeader where
  tag : Byte
  code : Byte
  len : BitVec 16
  deriving DecidableEq, Repr

/-- The outcome of the staging claim of the write in progress (R92, R108): no claim was made, a message of `length` bytes is
staged, or the claim was refused with a result that the end of the transaction reports. -/
inductive Staging where
  | none
  | granted (length : Nat)
  | refused (r : Result)
  deriving DecidableEq, Repr

/-- The transaction state with the bytes it needs (R149, R150): the status byte fixed at the fall of chip select; the request
header; the response or event chosen by a read, with the posts counted into a chosen OVERFLOW record (R163); the event count
of a STATUS transaction (R152). READ of Table 9-2 is `readResponse` or `readEvent`. -/
inductive Txn where
  | idle
  | code (status : Byte)
  | writeHeader
  | writeBody (h : ReqHeader) (staging : Staging)
  | readResponse (chosen : Option Response)
  | readEvent (chosen : Option Event) (counted : Nat)
  | statusTail (count : Nat)
  | ignore
  deriving DecidableEq, Repr

/-- A host port unit (R149), with the levels of HCSn and HRSTn and the bytes returned on HSOn since chip select last fell
(log entry 7). The default value is the port after device reset. -/
structure HostPort where
  session : Session := .detached
  responses : List Response := []
  events : List Event := []
  drop : Bool := false
  txn : Txn := .idle
  csLow : Bool := false
  hrstLow : Bool := false
  hso : List Byte := []
  deriving DecidableEq, Repr

/-! ## The machine -/

/-- The state of the LK340. `freeCount` is the model's own counter for its free values (log entry 3); `pending` is the queue of
commands that wait, the first to be taken at its head. -/
structure State where
  resetLow : Bool
  ports : Vector HostPort 3
  chans : Vector Chan 32
  pool : Pool
  links : Vector Link 2
  lines : Vector LinePort 2
  freeCount : Nat
  pending : List Instr
  deriving DecidableEq, Repr

/-- The machine right after device reset: RESET has been deasserted with HRSTn and HCSn high on every host port and LRDYn asserted on
both line ports (R169; log entry 1), and every block is at its state after device reset (R2, R27, R104, R137, R149). -/
def State.reset : State where
  resetLow := false
  ports := Vector.replicate 3 {}
  chans := Vector.replicate 32 {}
  pool := {}
  links := Vector.replicate 2 {}
  lines := Vector.replicate 2 {}
  freeCount := 0
  pending := []

/-- The faults of the machine: none. The spec names no event that stops the part; what goes wrong is a result, a counter, an
event or a discard. -/
inductive Fault where
  deriving DecidableEq, Repr

/-- Why a command has no meaning in a state. The last five name an event that the present pins and buffers exclude, so that the
part can meet no such step there; refusing them is safe (log entry 5). -/
inductive Refusal where
  /-- Raised by exec's arms for a row without a meaning: there is none in this model. Safe. -/
  | notModelled (mnemonic : String)
  /-- Raised by a command that ends a transaction, on a port whose chip select is high: no transaction can end. Safe. -/
  | chipSelectHigh
  /-- Raised by a transaction command when the transaction in progress is not at the point that the command continues or ends. Safe. -/
  | otherTransaction
  /-- Raised by the taking of a frame when the oldest held frame of the port is not of that kind, or none is held. Safe. -/
  | noSuchFrameHeld
  /-- Raised by TRANSMIT_COMPLETE when the transmit buffer is free or a teardown has cut off its frame, and by TRUNCATION_COMPLETE when
  none has. Safe. -/
  | nothingToComplete
  /-- Raised by an edge of a pin that is already at the level the edge leads to. Safe. -/
  | levelAlready
  deriving DecidableEq, Repr

end Sys2Proof.Machine
end

