-- ==== Sys2Proof/Machine/Bytes.lean ====
section
/-! DEFINITION. Bytes and blocks: how numbers and codes stand in the bytes that a host or a peer sees (R166, section 10.4). -/

namespace Sys2Proof.Machine

/-- A number as one byte. -/
def byteOf (n : Nat) : Byte := BitVec.ofNat 8 n

/-- A two-byte field, most significant byte first (R166). -/
def be16 (n : Nat) : List Byte := [byteOf (n / 256), byteOf n]

/-- The number held by a two-byte field, most significant byte first (R166). -/
def fromBe16 (hi lo : Byte) : Nat := hi.toNat * 256 + lo.toNat

/-- The blocks of a message of `len` bytes, ceil(len/64) (R87). -/
def blocksOf (len : Nat) : Nat := (len + (Config.blockBytes - 1)) / Config.blockBytes

/-- A flag as a bit of a byte. -/
def bit (b : Bool) (k : Nat) : Nat := if b then 2 ^ k else 0

/-- The byte of 0 or 1 for a flag that has a byte of its own. -/
def flagByte (b : Bool) : Byte := if b then 1#8 else 0#8

def TxMsg.blocks (m : TxMsg) : Nat := blocksOf m.payload.length

def RxMsg.blocks (m : RxMsg) : Nat := blocksOf m.payload.length

/-- Table 10-12. -/
def Reason.code : Reason → Nat
  | .stopped => 1 | .peerStopped => 2 | .retryExhausted => 3 | .lineLost => 4 | .protocolError => 5 | .peerRestart => 6
  | .closed => 7 | .peerClosed => 8 | .peerAborted => 9 | .noListener => 10 | .busy => 11 | .noBuffer => 12 | .violation => 13

/-- The code of a reason that may be missing: 0 stands for none (Table 10-12). -/
def reasonByte : Option Reason → Byte
  | none => 0#8
  | some r => byteOf r.code

/-- Table 10-15. -/
def Result.code : Result → Nat
  | .ok => 0 | .notAttached => 1 | .badState => 2 | .badArg => 3 | .unknown => 4 | .length => 5 | .inUse => 6 | .noChannel => 7
  | .notOwner => 8 | .linkNotUp => 9 | .notController => 10 | .noBuffer => 11 | .quota => 12 | .tooLarge => 13
  | .queueFull => 14 | .empty => 15

/-- Table 10-17. -/
def EventKind.code : EventKind → Nat
  | .linkUp => 1 | .linkDown => 2 | .linkReset => 3 | .linkVacant => 4 | .chOpened => 5 | .chEnded => 6 | .chFreed => 7
  | .msgArrived => 8 | .msgSent => 9 | .overflow => 15

/-- Table 10-14, channel state. -/
def ChState.code : ChState → Nat
  | .free => 0 | .listen => 1 | .opening => 2 | .opened => 3 | .closing => 4 | .ended => 5 | .aborting => 6

/-- Table 10-14, link state. -/
def LinkState.code : LinkState → Nat
  | .down => 0 | .listening => 1 | .starting => 2 | .up => 3 | .stopping => 4 | .failed => 5

/-- The class byte (Table 10-9). -/
def ChClass.code : ChClass → Nat
  | .normal => 0 | .urgent => 1

/-- The start mode byte (Table 10-9). -/
def StartMode.code : StartMode → Nat
  | .active => 0 | .passive => 1

/-- A channel id read from a number, when it is one. -/
def chanOf (n : Nat) : Option ChanId := if h : n < 32 then some ⟨n, h⟩ else none

/-- A link read from a number, when it is one. -/
def linkOf (n : Nat) : Option LinkId := if h : n < 2 then some ⟨n, h⟩ else none

/-- Every channel id, in ascending order. -/
def allChans : List ChanId := List.finRange 32

/-- Every host slot, in ascending order. -/
def allSlots : List Slot := List.finRange 3

end Sys2Proof.Machine
end

