-- ==== Sys2Proof/Machine/Ops.lean ====
section
/-! DEFINITION. The operations that the steps share: the parts of the state, events (R162), the buffer manager's claims (R88 to
R101), owed sets and control-ready lists (R22, R24, R170). -/

namespace Sys2Proof.Machine

/-! ## The parts of the state -/

def State.port (s : State) (p : Slot) : HostPort := s.ports[p]
def State.chan (s : State) (i : ChanId) : Chan := s.chans[i]
def State.link (s : State) (l : LinkId) : Link := s.links[l]
def State.line (s : State) (l : LinkId) : LinePort := s.lines[l]

def State.setPort (s : State) (p : Slot) (x : HostPort) : State := { s with ports := s.ports.set p x }
def State.setChan (s : State) (i : ChanId) (x : Chan) : State := { s with chans := s.chans.set i x }
def State.setLink (s : State) (l : LinkId) (x : Link) : State := { s with links := s.links.set l x }
def State.setLine (s : State) (l : LinkId) (x : LinePort) : State := { s with lines := s.lines.set l x }
def State.setPool (s : State) (x : Pool) : State := { s with pool := x }

/-! ## Events (R162) -/

/-- An ordinary record is one that is not OVERFLOW. -/
def Event.ordinary (e : Event) : Bool := e.kind != .overflow

/-- A count that saturates at 65535 (R162, R163). -/
def saturate16 (n : Nat) : Nat := min n 65535

/-- The OVERFLOW record with `n` events lost (Table 9-4). -/
def overflowRecord (n : Nat) : Event := { kind := .overflow, link := 0, channel := 0, reason := none, arg := n }

/-- The events of a queue after a post (R162): the first case that applies. -/
def postEvents (e : Event) (q : List Event) : List Event :=
  match q.getLast? with
  | some t =>
    if t.kind = .overflow then q.dropLast ++ [{ t with arg := saturate16 (t.arg + 1) }]
    else if Config.eventMax ≤ (q.filter Event.ordinary).length then q ++ [overflowRecord 1]
    else q ++ [e]
  | none => [e]

/-- The transaction state after a post: a read that has chosen an OVERFLOW record counts what is posted into it (R163). -/
def Txn.countPost : Txn → Txn
  | .readEvent (some c) n => if c.kind = .overflow then .readEvent (some c) (saturate16 (n + 1)) else .readEvent (some c) n
  | t => t

/-- A port takes a post (R162): a port that is not ATTACHED does nothing. -/
def HostPort.post (p : HostPort) (e : Event) : HostPort :=
  if p.session = .attached then { p with events := postEvents e p.events, txn := p.txn.countPost } else p

/-- Post to one host slot. -/
def State.postTo (s : State) (n : Slot) (e : Event) : State := s.setPort n ((s.port n).post e)

/-- Post to every attached host (R48). -/
def State.postAll (s : State) (e : Event) : State := allSlots.foldl (fun s n => s.postTo n e) s

/-- Post to every attached host but one (R34). -/
def State.postOthers (s : State) (p : Slot) (e : Event) : State :=
  allSlots.foldl (fun s n => if n = p then s else s.postTo n e) s

/-! ## Credit of a record (chapter 1, Table 1-2) -/

/-- Outstanding credit, (rx granted − rx consumed) mod 256. -/
def Chan.outstanding (c : Chan) : Nat := (c.rxGranted - c.rxConsumed).toNat

/-- Available tx credit, (tx limit − tx used) mod 256. -/
def Chan.available (c : Chan) : Nat := (c.txLimit - c.txUsed).toNat

/-- The want of a grant (R100). -/
def Chan.want (c : Chan) : Nat := c.rxWindow - c.rxHeld - c.outstanding

/-- The want of a record of the credit-owed list: a record that is not OPEN has none (R100). -/
def Chan.openWant (c : Chan) : Nat := if c.state = .opened then c.want else 0

/-- Whether a frame from `src` on link `l` matches the record (R4). -/
def Chan.fits (c : Chan) (l : LinkId) (src : ChanId) : Bool :=
  c.state != .free && c.link == l && c.remote == some src

/-! ## The buffer manager -/

/-- The TX count is the sum of the usages (R91). -/
def Pool.tx (p : Pool) : Nat := p.usage[0] + p.usage[1] + p.usage[2]

/-- Free-unreserved: FREE − R (R88). -/
def Pool.unreserved (p : Pool) : Nat := p.free - p.reserved

/-- The decision of a staging claim of slot `n` for `b` blocks (R92): none when it is granted. -/
def Pool.stagingRefusal (p : Pool) (n : Slot) (b : Nat) : Option Result :=
  if Config.quota < p.usage[n] + b then some .quota
  else if p.unreserved < b then some .noBuffer
  else none

/-- A granted staging claim: blocks pass from FREE to TX and are charged (R92). -/
def Pool.stage (p : Pool) (n : Slot) (b : Nat) : Pool :=
  { p with free := p.free - b, usage := p.usage.set n (p.usage[n] + b) }

/-- Blocks pass from TX to FREE, and the charge is returned (R93). -/
def Pool.freeTx (p : Pool) (n : Slot) (b : Nat) : Pool :=
  { p with free := p.free + b, usage := p.usage.set n (p.usage[n] - b) }

/-- Blocks pass from RX to FREE (R94). -/
def Pool.freeRx (p : Pool) (b : Nat) : Pool := { p with free := p.free + b, rx := p.rx - b }

/-- Blocks pass from FREE to RX and out of R (R97). -/
def Pool.place (p : Pool) (b : Nat) : Pool :=
  { p with free := p.free - b, rx := p.rx + b, reserved := p.reserved - b }

/-- R rises by a reservation or a grant (R95, R100). -/
def Pool.reserve (p : Pool) (b : Nat) : Pool := { p with reserved := p.reserved + b }

/-- R falls by what a release gives up, and the record leaves the credit-owed list (R96). -/
def Pool.unreserve (p : Pool) (i : ChanId) (b : Nat) : Pool :=
  { p with reserved := p.reserved - b, creditOwed := p.creditOwed.filter (· != i) }

/-- Free transmit messages, without serving the credit-owed list (R93). -/
def State.freeTxMsgs (s : State) (ms : List TxMsg) : State :=
  s.setPool (ms.foldl (fun p m => p.freeTx m.slot m.blocks) s.pool)

/-- Free received messages, without serving the credit-owed list (R94). -/
def State.freeRxMsgs (s : State) (ms : List RxMsg) : State :=
  s.setPool (ms.foldl (fun p m => p.freeRx m.blocks) s.pool)

/-! ## Owed sets and control-ready lists -/

def Owed.isEmpty (o : Owed) : Bool := !o.opn && !o.accept && !o.credit && o.close.isNone

/-- The control-ready list after a record's owed set goes from `old` to `new` by a command or an arriving frame (R24). -/
def readyAfter (i : ChanId) (old new : Owed) (ready : List ChanId) : List ChanId :=
  if old.isEmpty && !new.isEmpty then ready ++ [i]
  else if !old.isEmpty && new.isEmpty then ready.filter (· != i)
  else ready

/-- Change a record's owed set, keeping the control-ready list of its own link in step (R24). -/
def State.setOwed (s : State) (i : ChanId) (o : Owed) : State :=
  let c := s.chan i
  let s1 := s.setChan i { c with owed := o }
  let k := s1.link c.link
  s1.setLink c.link { k with ready := readyAfter i c.owed o k.ready }

/-- CREDIT made owed (R22, R170): not added while CLOSE is owed. -/
def State.oweCredit (s : State) (i : ChanId) : State :=
  let o := (s.chan i).owed
  if o.close.isSome then s else s.setOwed i { o with credit := true }

/-! ## Grants and the credit-owed list (R100, R101) -/

/-- Grant `g` blocks to a record: rx granted and R rise, and CREDIT is made owed, when `g` is above 0. -/
def State.raiseGrant (s : State) (i : ChanId) (g : Nat) : State :=
  if g = 0 then s else
  let c := s.chan i
  ((s.setChan i { c with rxGranted := c.rxGranted + BitVec.ofNat 8 g }).setPool (s.pool.reserve g)).oweCredit i

/-- The grant computed for a record named by a RECV (R100). -/
def State.grant (s : State) (i : ChanId) : State :=
  let c := s.chan i
  if c.state ≠ .opened then s else
  let g := min c.want s.pool.unreserved
  let s1 := s.raiseGrant i g
  if g < c.want && !s1.pool.creditOwed.contains i then
    s1.setPool { s1.pool with creditOwed := s1.pool.creditOwed ++ [i] }
  else s1

def State.setCreditOwed (s : State) (q : List ChanId) : State := s.setPool { s.pool with creditOwed := q }

/-- Serve the ids of the credit-owed list from its head, while free-unreserved is above 0 (R101). -/
def State.serveList : List ChanId → State → State
  | [], s => s.setCreditOwed []
  | i :: rest, s =>
    if s.pool.unreserved = 0 then s.setCreditOwed (i :: rest)
    else
      let w := (s.chan i).openWant
      let g := min w s.pool.unreserved
      let s1 := s.raiseGrant i g
      if g < w then s1.setCreditOwed (i :: rest) else serveList rest s1

/-- The credit-owed list is served as the last part of every claim that raises free-unreserved (R101). -/
def State.serve (s : State) : State := s.serveList s.pool.creditOwed

end Sys2Proof.Machine
end

