-- ==== Sys2Proof/Machine/Channels.lean ====
section
/-! DEFINITION. The changes of channel records that several steps share: releases (R96), ending and aborting (R121, R122), freeing
(R20, R126), entering OPEN (R11), giving up by release or session end (R127, R135) and the channel side of a teardown (R133). -/

namespace Sys2Proof.Machine

/-- A record's reservation is released: R falls by its outstanding credit, its rx counters are dropped, and it leaves the
credit-owed list (R96). The list is served by the caller, as the last part of its claim. -/
def State.releaseCredit (s : State) (i : ChanId) : State :=
  let c := s.chan i
  (s.setChan i { c with rxGranted := 0, rxConsumed := 0 }).setPool (s.pool.unreserve i c.outstanding)

/-- An entry with its notify flag cleared, when its message is of channel `i` (R114). -/
def Entry.clearNotify (i : ChanId) (e : Entry) : Entry :=
  match e.body with
  | .data m => if m.channel = i then { e with body := .data { m with notify := false } } else e
  | .ctl _ => e

/-- The notify flags of a record's entries in the retransmission list of its link are cleared (R114). -/
def State.clearNotify (s : State) (i : ChanId) : State :=
  let l := (s.chan i).link
  let k := s.link l
  s.setLink l { k with rtx := k.rtx.map (Entry.clearNotify i) }

/-- An event about a record, with the record's link and id (Table 9-4). -/
def State.chanEvent (s : State) (i : ChanId) (kind : EventKind) (reason : Option Reason) (arg : Nat) : Event :=
  { kind, link := (s.chan i).link, channel := i, reason, arg }

/-- A record is ended with a reason (R121). The credit-owed list is served last (log entry 12). -/
def State.endChan (s : State) (i : ChanId) (r : Reason) : State :=
  let c := s.chan i
  let s := s.freeTxMsgs c.sendQ
  let s := s.setOwed i {}
  let s := s.releaseCredit i
  let s := s.clearNotify i
  let s := s.setChan i
    { state := .ended, owner := c.owner, link := c.link, remote := c.remote, cls := c.cls, rxWindow := c.rxWindow,
      rxHeld := c.rxHeld, recvQ := c.recvQ, endReason := some r }
  let s := s.postTo c.owner (s.chanEvent i .chEnded (some r) c.sendQ.length)
  s.serve

/-- What an abort leaves owed: no CLOSE when the record's close has been sent, otherwise CLOSE with the abort marker (R122). -/
def Chan.abortOwed (c : Chan) : Owed := if c.closeSent then {} else { close := some true }

/-- A record is aborted (R122). The credit-owed list is served last (log entry 12). -/
def State.abortChan (s : State) (i : ChanId) : State :=
  let c := s.chan i
  let s := s.freeTxMsgs c.sendQ
  let s := s.freeRxMsgs c.recvQ
  let s := s.releaseCredit i
  let s := s.clearNotify i
  let s := s.setOwed i c.abortOwed
  let s := s.setChan i
    { state := .aborting, owner := c.owner, link := c.link, remote := c.remote, cls := c.cls, rxWindow := c.rxWindow,
      owed := c.abortOwed, closeSent := c.closeSent }
  s.serve

/-- A record becomes FREE and loses every other field (R1); an owed set that was non-empty leaves the control-ready list (R24).
Its messages and credit have been given up by the caller. -/
def State.freeChan (s : State) (i : ChanId) : State := (s.setOwed i {}).setChan i {}

/-- An ABORTING record becomes FREE, and CH-FREED is posted to its owner, which takes it when attached (R20, R126). -/
def State.freeAborted (s : State) (i : ChanId) : State :=
  let e := s.chanEvent i .chFreed none 0
  let owner := (s.chan i).owner
  (s.freeChan i).postTo owner e

/-- A record is given up by its owner's CH-RELEASE (R127) or by the end of its owner's session (R135). -/
def State.giveUp (s : State) (i : ChanId) : State :=
  let c := s.chan i
  match c.state with
  | .listen => s.freeChan i
  | .ended => ((s.freeRxMsgs c.recvQ).freeChan i).serve
  | .opening => if c.owed.opn then ((s.releaseCredit i).freeChan i).serve else s.abortChan i
  | .opened | .closing => s.abortChan i
  | .free | .aborting => s

/-- A record completes an open handshake and enters OPEN (R11); its owed set and rx counters are set by the entering rule. -/
def State.enterOpen (s : State) (i : ChanId) (peerWindow : Nat) : State :=
  let c := s.chan i
  let s := s.setChan i { c with
    state := .opened, peerWindow, txUsed := 0, txLimit := BitVec.ofNat 8 peerWindow, sendQ := [] }
  s.postTo c.owner (s.chanEvent i .chOpened none 0)

/-- The effect of a teardown on one record bound to the link (R133). -/
def State.tearRecord (s : State) (i : ChanId) (r : Reason) : State :=
  match (s.chan i).state with
  | .opening | .opened | .closing => s.endChan i r
  | .aborting => s.freeAborted i
  | .free | .listen | .ended => s

/-- The channel table takes a teardown of link `l`: its records leave the credit-owed list, and then each is changed in
ascending order of id (R133). -/
def State.tearChannels (s : State) (l : LinkId) (r : Reason) : State :=
  let s := s.setCreditOwed (s.pool.creditOwed.filter fun i => (s.chan i).link != l)
  allChans.foldl (fun s i => if (s.chan i).link = l then s.tearRecord i r else s) s

/-- The channel table takes the end of the session of slot `n` on every record it owns, in ascending order of id (R135). -/
def State.endSessionRecords (s : State) (n : Slot) : State :=
  allChans.foldl (fun s i => if (s.chan i).state ≠ .free ∧ (s.chan i).owner = n then s.giveUp i else s) s

/-- The FREE record with the lowest id (R5). -/
def State.lowestFree (s : State) : Option ChanId := allChans.find? fun i => (s.chan i).state = .free

/-- The local id of a CH-LISTEN or CH-OPEN resolved (R5); `n` has passed the BAD-ARG check. -/
def State.resolve (s : State) (n : Nat) : Except Result ChanId :=
  match chanOf n with
  | some i => if (s.chan i).state = .free then .ok i else .error .inUse
  | none => match s.lowestFree with
    | some i => .ok i
    | none => .error .noChannel

end Sys2Proof.Machine
end

