-- ==== Sys2Proof/Machine/Characters.lean ====
section
/-! DEFINITION. The characters of a line (R138): their levels, and how a receiver finds characters in the levels it samples. A level is
true when it is marking and false when it is spacing, and one level stands for one bit time. -/

namespace Sys2Proof.Machine

/-- A character received on LRXDn: its byte, or a character with a framing error (R138). -/
inductive LineChar where
  | byte (b : Byte)
  | framingError
  deriving DecidableEq, Repr

/-- The levels of a character: the start bit, eight data bits with the least significant first, and the stop bit (R138). -/
def charLevels (b : Byte) : List Bool := false :: ((List.range 8).map b.getLsbD ++ [true])

/-- The byte of eight data bits, the least significant first. -/
def byteOfLevels (bits : List Bool) : Byte := BitVec.ofNat 8 (bits.foldr (fun d n => (if d then 1 else 0) + 2 * n) 0)

/-- What the receiver of a line does with the next level: it waits for the marking level before it looks for a start bit again, it looks
for a start bit, or it takes the bits of a character, of which it has some data bits. -/
inductive Sampler where
  | waiting
  | ready
  | taking (bits : List Bool)
  deriving DecidableEq, Repr

/-- A character whose stop bit is at the spacing level has a framing error (R138). -/
def charOf (bits : List Bool) (stop : Bool) : LineChar := if stop then .byte (byteOfLevels bits) else .framingError

/-- The characters found in a run of levels (R138). A continuous spacing level longer than one character gives one framing error, and the
receiver then waits for the marking level before it looks for a start bit. DESIGN CHOICE (log entry 25, unsafe): it waits so after every
framing error, also one whose data bits are not all at the spacing level, for which R138 does not say whether it waits. -/
def Sampler.read : Sampler → List Bool → Sampler × List LineChar
  | x, [] => (x, [])
  | .waiting, v :: vs => Sampler.read (if v then .ready else .waiting) vs
  | .ready, v :: vs => Sampler.read (if v then .ready else .taking []) vs
  | .taking bits, v :: vs =>
    if bits.length < 8 then Sampler.read (.taking (bits ++ [v])) vs
    else
      let r := Sampler.read (if v then .ready else .waiting) vs
      (r.1, charOf bits v :: r.2)

/-- The receiver as a command finds it: waiting for the marking level or looking for a start bit. -/
def Sampler.start (wait : Bool) : Sampler := if wait then .waiting else .ready

end Sys2Proof.Machine
end

