-- ==== Sys2Proof/WellFormed.lean ====
section
/-! DEFINITION. Which terms of Instr are steps that the rows of the table describe. -/

namespace Sys2Proof

/-- The delimiter H'A5 (R139). -/
def delimiter : Byte := 0xA5#8

/-- A well-formed command. A frame body starts with a byte that is not a delimiter (R143), and the levels of a received character hold
one character and nothing of another, for a receiver that looks for a start bit or for one that waits for the marking level (R138). Ports,
links, bytes and lengths are in range by their types, and a host may clock any number of body bytes (R155). -/
def Instr.wellFormed : Instr → Bool
  | .frameBodyStart _ b => b != delimiter
  | .bodyCharacter _ levels => [false, true].any fun wait =>
    let r := (Machine.Sampler.start wait).read levels
    r.2.length == 1 && (r.1 == .ready || r.1 == .waiting)
  | .attach _ _ | .detach _ _ | .linkStart _ _ | .linkStop _ _ | .linkClaim _ _ | .linkQuery _ _
  | .chListen _ _ | .chOpen _ _ | .chClose _ _ | .chRelease _ _ | .chQuery _ _ | .send _ _
  | .recv _ _ | .poolQuery _ _ | .unknownCommand _ _
  | .transactionCode _ _ | .statusTransaction _ _ | .writeRequestHeader _ _ _ _ | .readResponse _ _ | .readEvent _ _
  | .hostPortReset _ | .hostPortResetRelease _ | .deviceReset | .deviceResetRelease
  | .lineReadyDeasserted _ | .frameEnd _ | .transmitComplete _ | .truncationComplete _
  | .linkOpen _ | .linkAccept _ | .linkClose _ | .linkClosed _ | .status _ | .resend _ | .data _ | .chanOpen _
  | .chanAccept _ | .chanRefuse _ | .chanClose _ | .chanClosed _ | .chanCredit _
  | .tAckExpiry _ | .tRespExpiry _ | .tIdleExpiry _ | .chipSelectFalls _ | .ignoredTransactionEnd _ _
  | .huntDelimiter _ | .lineReadyAsserted _ => true

end Sys2Proof
end

