-- ==== Sys2Proof/Machine/LineFormat.lean ====
section
/-! DEFINITION. Frames as bytes: CRC and escapes (R139), the layouts of frame bodies (section 10.2), and the checks made on a
received body (R144, R145). -/

namespace Sys2Proof.Machine

/-- The escape H'5A (R139). -/
def escapeByte : Byte := 0x5A#8

/-! ## CRC (R139) -/

/-- One bit of the division by x^16 + x^15 + x^2 + 1, most significant bit first. -/
def crcShift (c : BitVec 16) : BitVec 16 := if c.msb then (c <<< 1) ^^^ 0x8005#16 else c <<< 1

/-- One byte taken into the CRC register. -/
def crcByte (c : BitVec 16) (b : Byte) : BitVec 16 :=
  crcShift (crcShift (crcShift (crcShift (crcShift (crcShift (crcShift (crcShift (c ^^^ (b.setWidth 16 <<< 8)))))))))

/-- The CRC of a run of bytes: the register is preset to 0 and sent without inversion. -/
def crc16 (bs : List Byte) : BitVec 16 := bs.foldl crcByte 0#16

/-- The two CRC bytes, high byte first. -/
def crcBytes (bs : List Byte) : List Byte := be16 (crc16 bs).toNat

/-! ## Sending (R139, R140, R167) -/

/-- The STATUS flags byte: poll in bit 0, answer in bit 1 (section 10.2). -/
def statusFlags (poll answer : Bool) : Byte := byteOf (bit poll 0 + bit answer 1)

/-- A sequence number or channel id as a byte. -/
def seqByte (n : Seq) : Byte := n.setWidth 8
def chanByte (i : ChanId) : Byte := byteOf i.val

/-- Kind code and fields after src of the content of a sequenced frame (Table 10-4). -/
def Content.bytes : Content → Byte × List Byte
  | .data payload => (0x40#8, be16 payload.length ++ payload)
  | .ctl (.opn w) => (0x41#8, [byteOf w])
  | .ctl (.accept w) => (0x42#8, [byteOf w])
  | .ctl (.refuse r) => (0x43#8, [byteOf r.code])
  | .ctl (.close abort) => (0x44#8, [flagByte abort])
  | .ctl .closed => (0x45#8, [])
  | .ctl (.credit limit) => (0x46#8, [limit])

/-- The bytes of a frame body before its CRC (Tables 10-3, 10-4). -/
def Frame.fields : Frame → List Byte
  | .linkOpen sender w => [0x11#8, sender, byteOf w]
  | .linkAccept echoed sender w => [0x12#8, echoed, sender, byteOf w]
  | .linkClose => [0x13#8]
  | .linkClosed => [0x14#8]
  | .status nr poll answer => [0x21#8, seqByte nr, statusFlags poll answer]
  | .resend nr => [0x22#8, seqByte nr]
  | .seq ns nr dst src content =>
    content.bytes.1 :: seqByte ns :: seqByte nr :: chanByte dst :: chanByte src :: content.bytes.2

/-- A frame body, CRC included. -/
def Frame.body (f : Frame) : List Byte := f.fields ++ crcBytes f.fields

/-- The characters that a body byte is sent as (R139). -/
def escapeOf (b : Byte) : List Byte :=
  if b = delimiter then [escapeByte, 0x85#8] else if b = escapeByte then [escapeByte, 0x7A#8] else [b]

/-- The characters of a frame on LTXDn: delimiter, escaped body, delimiter (R139, R140). -/
def Frame.lineChars (f : Frame) : List Byte := delimiter :: (f.body.flatMap escapeOf ++ [delimiter])

/-! ## Checks on a received body (R144, R145) -/

/-- A byte that must be 0..31, read as a sequence number. -/
def readSeq (b : Byte) : Option Seq := if b.toNat < 32 then some (b.setWidth 5) else none

/-- A byte that must lie in a range, read as a number. -/
def readRange (lo hi : Nat) (b : Byte) : Option Nat := if lo ≤ b.toNat ∧ b.toNat ≤ hi then some b.toNat else none

/-- An epoch byte, which is not 0. -/
def readEpoch (b : Byte) : Option Byte := if b = 0#8 then none else some b

/-- A reason byte of a CHAN-REFUSE (section 10.2). -/
def readRefusal (b : Byte) : Option Reason :=
  if b = 10#8 then some .noListener else if b = 11#8 then some .busy else if b = 12#8 then some .noBuffer else none

/-- A flag byte that names bit 0 alone (R166). -/
def readFlag (b : Byte) : Option Bool := if b = 0#8 then some false else if b = 1#8 then some true else none

/-- The fields after src, for a kind code of a sequenced frame (R145). -/
def readContent (kind : Byte) (rest : List Byte) : Option Content :=
  if kind = 0x40#8 then
    match rest with
    | hi :: lo :: payload =>
      if 1 ≤ payload.length ∧ payload.length ≤ Config.maxMessage ∧ fromBe16 hi lo = payload.length then some (.data payload)
      else none
    | _ => none
  else if kind = 0x41#8 then
    match rest with | [w] => (readRange 1 64 w).map fun w => .ctl (.opn w) | _ => none
  else if kind = 0x42#8 then
    match rest with | [w] => (readRange 1 64 w).map fun w => .ctl (.accept w) | _ => none
  else if kind = 0x43#8 then
    match rest with | [r] => (readRefusal r).map fun r => .ctl (.refuse r) | _ => none
  else if kind = 0x44#8 then
    match rest with | [f] => (readFlag f).map fun a => .ctl (.close a) | _ => none
  else if kind = 0x45#8 then
    match rest with | [] => some (.ctl .closed) | _ => none
  else if kind = 0x46#8 then
    match rest with | [limit] => some (.ctl (.credit limit)) | _ => none
  else none

/-- A sequenced frame read from its bytes before the CRC. -/
def readSequenced (kind : Byte) (fs : List Byte) : Option Frame :=
  match fs with
  | ns :: nr :: dst :: src :: rest =>
    (readSeq ns).bind fun ns => (readSeq nr).bind fun nr =>
    (chanOf dst.toNat).bind fun dst => (chanOf src.toNat).bind fun src =>
    (readContent kind rest).map fun c => .seq ns nr dst src c
  | _ => none

/-- A frame read from its bytes before the CRC, by the format checks of R145: none is a format error. -/
def readFields : List Byte → Option Frame
  | [] => none
  | kind :: fs =>
    if kind = 0x11#8 then
      match fs with
      | [e, w] => (readEpoch e).bind fun e => (readRange 1 16 w).map fun w => .linkOpen e w
      | _ => none
    else if kind = 0x12#8 then
      match fs with
      | [e1, e2, w] =>
        (readEpoch e1).bind fun e1 => (readEpoch e2).bind fun e2 => (readRange 1 16 w).map fun w => .linkAccept e1 e2 w
      | _ => none
    else if kind = 0x13#8 then
      match fs with | [] => some .linkClose | _ => none
    else if kind = 0x14#8 then
      match fs with | [] => some .linkClosed | _ => none
    else if kind = 0x21#8 then
      match fs with
      | [nr, f] =>
        (readSeq nr).bind fun nr => (readRange 0 3 f).map fun f => .status nr (f % 2 == 1) (f / 2 == 1)
      | _ => none
    else if kind = 0x22#8 then
      match fs with | [nr] => (readSeq nr).map fun nr => .resend nr | _ => none
    else readSequenced kind fs

/-- The outcome of the checks at the end of a body. -/
inductive Verdict where
  | good (f : Frame)
  | crcError
  | formatError
  deriving DecidableEq, Repr

/-- The checks at the end of a body, the first that fails giving the cause (R144). -/
def checkBody (b : List Byte) : Verdict :=
  if b.length < 3 then .crcError
  else
    let n := b.length - 2
    if crcBytes (b.take n) ≠ b.drop n then .crcError
    else match readFields (b.take n) with
      | some f => .good f
      | none => .formatError

end Sys2Proof.Machine
end

