-- ==== Sys2Proof/Machine/Transmitter.lean ====
section
/-! DEFINITION. The transmitter of a line port: what LTXDn carries (R137, R140), the characters sent in a millisecond (R138), and the
truncation of a frame at a teardown (R141). -/

namespace Sys2Proof.Machine

/-- The rate in bit/s of a rate code (R138). -/
def bitRate (code : Nat) : Nat := [9600, 19200, 57600, 115200, 460800, 921600, 1843200, 3125000].getD code 0

/-- The hundredths of a character that are sent in 1 ms at a rate: a character is ten bits (R138). -/
def pace : Option Nat → Nat
  | some code => bitRate code / 100
  | none => 0

/-- Whether a frame is sequenced: DATA or a CHAN- kind (Table 10-2). -/
def Frame.sequenced : Frame → Bool
  | .seq _ _ _ _ _ => true
  | .linkOpen _ _ | .linkAccept _ _ _ | .linkClose | .linkClosed | .status _ _ _ | .resend _ => false

/-- The characters that are sent for a frame: all of them (R140), or, when it was cut off with `n` of them begun, these and one H'A5
(R141). -/
def TxSlot.chars (t : TxSlot) : List Byte := match t.cut with
  | none => t.frame.lineChars
  | some n => t.frame.lineChars.take n ++ [delimiter]

/-- The stop bit of the last character has been sent. -/
def TxSlot.ended (t : TxSlot) : Bool := decide (t.chars.length < t.begun)

/-- What LTXDn carries. -/
inductive LineOutput where
  /-- The marking level, with no character: the port is disabled (R137). -/
  | marking
  /-- H'A5 characters, one after another (R140). -/
  | idleFill
  /-- The characters of the frame in the transmit buffer, those begun and those to follow (R140, R141). -/
  | frame (begun rest : List Byte)
  deriving DecidableEq, Repr

/-- The output LTXDn of a port (R137, R140, R141). -/
def LinePort.output (p : LinePort) : LineOutput :=
  if !p.enabled then .marking
  else match p.tx with
    | none => .idleFill
    | some t => .frame (t.chars.take t.begun) (t.chars.drop t.begun)

/-- The levels that follow the character in progress on LTXDn (R138): those of the next character, or the marking level. -/
def LineOutput.levels : LineOutput → List Bool
  | .marking => [true]
  | .idleFill | .frame _ [] => charLevels delimiter
  | .frame _ (c :: _) => charLevels c

/-- The character boundaries that a frame passes in a millisecond: its first character is begun at the first of them, where the character
of idle fill in progress ends, and each later one begins the next (R140). -/
def TxSlot.pass (t : TxSlot) (n : Nat) : TxSlot := { t with begun := min (t.begun + n) (t.chars.length + 1) }

/-- A millisecond of sending (R138, R140; log entries 10 and 18): the character in progress goes on at the rate at which it was begun,
and what is left of the millisecond at its end is sent at the rate of the port. -/
def LinePort.sendOn (p : LinePort) : LinePort :=
  let left := 100 - p.phase
  let old := pace p.charRate
  if old < left then { p with phase := p.phase + old }
  else
    let n := pace p.rate * (old - left) / old
    { p with phase := n % 100, charRate := p.rate, tx := p.tx.map fun t => t.pass (1 + n / 100) }

/-- The line port is told of a teardown (R141; log entry 10): a sequenced frame with a character of its escaped body not yet begun is cut
off; every other frame completes. -/
def LinePort.toldTeardown (p : LinePort) : LinePort :=
  match p.tx with
  | some t =>
    if t.frame.sequenced && t.cut.isNone && decide (t.begun + 1 < t.frame.lineChars.length) then
      { p with tx := some { t with cut := some t.begun } }
    else p
  | none => p

end Sys2Proof.Machine
end

