-- ==== Sys2Proof/Machine/LinkEngine.lean ====
section
/-! DEFINITION. The changes of link records that several steps share: timers (R26), epochs (R29), entering the states (R39, R42,
R44, R45), teardown (R46), counters (R49), acknowledgement and acceptance (R55 to R60), go-back passes (R64). -/

namespace Sys2Proof.Machine

/-- The parameters of the short form (Table 2-3). -/
def Params.defaults (m : StartMode) : Params :=
  { mode := m, windowOffer := 8, rateCode := 7, tAck := 20, tResp := 200, tIdle := 5000, nRetry := 5 }

/-- The parameters of a link that has been started; a link that never was uses no parameter, and the defaults stand in. -/
def Link.par (k : Link) : Params := k.params.getD (Params.defaults .active)

/-- An epoch advances: plus 1, except that 255 becomes 1 (R29). -/
def nextEpoch (e : Byte) : Byte := if e = 255#8 then 1#8 else e + 1#8

/-! ## Timers (R26) -/

def Link.startAck (k : Link) : Link := { k with tAck := some k.par.tAck }
def Link.startResp (k : Link) : Link := { k with tResp := some k.par.tResp }

/-- T_idle is started when its parameter is non-zero, and stays stopped when it is 0 (R39, R68). -/
def Link.startIdle (k : Link) : Link := { k with tIdle := if k.par.tIdle = 0 then none else some k.par.tIdle }

/-- T_idle, when it runs, is restarted by a good frame taken in UP (R55, R68). -/
def Link.touchIdle (k : Link) : Link := if k.tIdle.isSome then k.startIdle else k

def Link.stopTimers (k : Link) : Link := { k with tAck := none, tResp := none, tIdle := none }

/-! ## Counters (R49) -/

def Counters.bumpSent (c : Counters) : Counters := { c with framesSent := c.framesSent + 1 }
def Counters.bumpGood (c : Counters) : Counters := { c with goodFrames := c.goodFrames + 1 }
def Counters.bumpRetransmission (c : Counters) : Counters := { c with retransmissions := c.retransmissions + 1 }
def Counters.bumpCrc (c : Counters) : Counters := { c with crcErrors := c.crcErrors + 1 }
def Counters.bumpFormat (c : Counters) : Counters := { c with formatErrors := c.formatErrors + 1 }
def Counters.bumpOverrun (c : Counters) : Counters := { c with overruns := c.overruns + 1 }
def Counters.bumpOutOfSequence (c : Counters) : Counters := { c with outOfSequence := c.outOfSequence + 1 }
def Counters.bumpStray (c : Counters) : Counters := { c with stray := c.stray + 1 }
def Counters.bumpViolation (c : Counters) : Counters := { c with violations := c.violations + 1 }

/-- Change the counters of a link. -/
def State.count (s : State) (l : LinkId) (f : Counters → Counters) : State :=
  let k := s.link l
  s.setLink l { k with counters := f k.counters }

/-- A frame without a suitable record is reported to the engine of its link and counted (R10). -/
def State.stray (s : State) (l : LinkId) : State := s.count l Counters.bumpStray

/-! ## Leaving UP -/

/-- The fields that are present in UP alone and are dropped on leaving it (R50). -/
def Link.dropSequence (k : Link) : Link := { k with vs := 0, va := 0, vr := 0 }

/-- The messages held by the DATA entries of a retransmission list. -/
def dataMsgs (es : List Entry) : List TxMsg :=
  es.filterMap fun e => match e.body with
    | .data m => some m
    | .ctl _ => none

/-- The engine's own part of a teardown (R46). -/
def Link.torn (k : Link) : Link :=
  { k.stopTimers with
    rtx := [], ready := [], answers := [], owedSup := {}, goBack := none,
    pollOutstanding := false, ackPending := false, resendSent := false }

/-- A teardown of link `l` with a reason (R46): the channel table first, then the link's own state, then the line port. -/
def State.teardown (s : State) (l : LinkId) (r : Reason) : State :=
  let s := s.tearChannels l r
  let k := s.link l
  let s := (s.freeTxMsgs (dataMsgs k.rtx)).setLink l k.torn
  let s := s.serve
  s.setLine l (s.line l).toldTeardown

/-- A link event carries the link number; the fields that Table 9-4 marks 0 are 0. -/
def linkEvent (l : LinkId) (kind : EventKind) (r : Option Reason) (arg : Nat) : Event :=
  { kind, link := l, channel := 0, reason := r, arg }

/-- LINK-DOWN or LINK-RESET is called for: the reason is written to last reason, and the event is posted to every attached host
(R48). -/
def State.postLinkReason (s : State) (l : LinkId) (kind : EventKind) (r : Reason) : State :=
  (s.setLink l { s.link l with lastReason := some r }).postAll (linkEvent l kind (some r) 0)

/-- Entering DOWN makes the controller VACANT and posts LINK-DOWN (R31, R34, R41, R42). No timer runs in DOWN (Table 2-4), and the
retry count is absent there. -/
def State.enterDown (s : State) (l : LinkId) (r : Reason) : State :=
  let k := s.link l
  (s.setLink l { k.stopTimers.dropSequence with state := .down, controller := none, retry := 0 }).postLinkReason l .linkDown r

/-- A stop completes (R42): T_resp stopped, LINK-CLOSE no longer owed, DOWN. -/
def State.completeStop (s : State) (l : LinkId) (r : Reason) : State :=
  let k := s.link l
  (s.setLink l { k with owedLink := { k.owedLink with close := false } }).enterDown l r

/-- Entering FAILED (R44). -/
def State.enterFailed (s : State) (l : LinkId) (r : Reason) : State :=
  let k := s.link l
  (s.setLink l { k.stopTimers.dropSequence with
    state := .failed, retry := 0, owedLink := { k.owedLink with opn := false } }).postLinkReason l .linkDown r

/-- Entering STARTING: retry count 0, LINK-OPEN owed, T_resp started (R30, R45). -/
def Link.enterStarting (k : Link) : Link :=
  { k.dropSequence.startResp with state := .starting, retry := 0, owedLink := { k.owedLink with opn := true } }

/-- The sequenced state set up afresh on entering or re-entering UP (R39). -/
def Link.enterUp (k : Link) (peer : Byte) (agreed : Nat) : Link :=
  { k.torn.dropSequence.startIdle with
    state := .up, retry := 0, peerEpoch := some peer, agreed := some agreed,
    owedLink := { k.owedLink with opn := false } }

/-- LINK-ACCEPT added to the owed link frames (R37, R40). -/
def Link.oweAccept (k : Link) : Link := { k with owedLink := { k.owedLink with accept := true } }

/-- LINK-CLOSED added to the owed link frames (R41, R42). -/
def Link.oweClosed (k : Link) : Link := { k with owedLink := { k.owedLink with closed := true } }

/-- A link enters UP from LISTENING or STARTING, and LINK-UP is posted with the agreed window (R39). -/
def State.establish (s : State) (l : LinkId) (peer : Byte) (agreed : Nat) : State :=
  (s.setLink l ((s.link l).enterUp peer agreed)).postAll (linkEvent l .linkUp none agreed)

/-- A protocol reset (R45). -/
def State.protocolReset (s : State) (l : LinkId) : State :=
  let s := s.teardown l .protocolError
  let k := s.link l
  (s.setLink l { k.enterStarting with ownEpoch := nextEpoch k.ownEpoch }).postLinkReason l .linkReset .protocolError

/-! ## Acknowledgement (R56 to R58) -/

/-- An nr is valid when it acknowledges no frame beyond those taken (R56). -/
def Link.nrValid (k : Link) (nr : Seq) : Bool := decide ((nr - k.va).toNat ≤ (k.vs - k.va).toNat)

/-- The go-back pass after an acknowledgement of the entries below `nr`: a pointer that stood on a removed entry moves to the new
V(a), and the pass ends if that is V(s) (R58). -/
def GoBack.afterAck (g : GoBack) (va vs nr : Seq) : Option GoBack :=
  if (g.pointer - va).toNat < (nr - va).toNat then (if nr = vs then none else some { g with pointer := nr }) else some g

/-- The link record after the entries below `nr` have left the list (R57, R58); `nr` acknowledges at least one entry. -/
def Link.acked (k : Link) (nr : Seq) : Link :=
  let rest := k.rtx.drop (nr - k.va).toNat
  let k1 := { k with va := nr, rtx := rest, retry := 0, goBack := k.goBack.bind fun g => g.afterAck k.va k.vs nr }
  if !rest.isEmpty then k1.startResp
  else if k.pollOutstanding then k1
  else { k1 with tResp := none }.startIdle

/-- MSG-SENT of an acknowledged message whose notify flag is set (R113). -/
def msgSentEvent (l : LinkId) (m : TxMsg) : Event :=
  { kind := .msgSent, link := l, channel := m.channel, reason := none, arg := m.tag.toNat }

/-- A valid nr is processed as an acknowledgement (R57, R58): all messages are freed before the credit-owed list is served (R93),
and MSG-SENT is posted in ascending order of ns. -/
def State.acknowledge (s : State) (l : LinkId) (nr : Seq) : State :=
  let k := s.link l
  let n := (nr - k.va).toNat
  if n = 0 then s else
  let ms := dataMsgs (k.rtx.take n)
  let s := (s.freeTxMsgs ms).setLink l (k.acked nr)
  let s := ms.foldl (fun s m => if m.notify then s.postTo m.slot (msgSentEvent l m) else s) s
  s.serve

/-! ## Sequence (R59, R60) -/

/-- A sequenced frame is accepted (R59). -/
def Link.accepted (k : Link) : Link :=
  let k1 := { k with vr := k.vr + 1, resendSent := false, owedSup := { k.owedSup with resend := false }, ackPending := true }
  if k.ackPending then k1 else k1.startAck

/-- A sequenced frame is discarded out of sequence (R60). -/
def Link.outOfSequence (k : Link) : Link :=
  let k1 := { k with counters := k.counters.bumpOutOfSequence }
  if k.resendSent then k1 else { k1 with resendSent := true, owedSup := { k.owedSup with resend := true } }

/-- A go-back pass starts from V(a) (R64). -/
def Link.startPass (k : Link) : Link := { k with goBack := some { pointer := k.va, start := k.va } }

/-- The parts of R55 common to STATUS, RESEND and the sequenced kinds: outside UP the frame is discarded (Table 2-5); in UP T_idle
is restarted when it runs, an invalid nr causes a protocol reset, and a valid one is processed; then the frame is taken by kind. -/
def State.withNr (s : State) (l : LinkId) (nr : Seq) (act : State → State) : State :=
  if (s.link l).state ≠ .up then s else
  let s := s.setLink l (s.link l).touchIdle
  if (s.link l).nrValid nr then act (s.acknowledge l nr) else s.protocolReset l

/-- A sequenced frame: accepted and handed to the channel table, or discarded (R59, R60, R61). -/
def State.takeSequenced (s : State) (l : LinkId) (ns nr : Seq) (deliver : State → State) : State :=
  s.withNr l nr fun s =>
    let k := s.link l
    if ns = k.vr then deliver (s.setLink l k.accepted) else s.setLink l k.outOfSequence

end Sys2Proof.Machine
end

