-- ==== Sys2Proof/Machine/Arbiter.lean ====
section
/-! DEFINITION. The transmit arbiter of a link engine (chapter 4): the choice of a frame in the order of Table 4-2, and what its
taking changes (R53, R54, R62, R65, R75 to R85). -/

namespace Sys2Proof.Machine

/-- The kinds of link frame in the order of R75. -/
inductive LinkFrameKind where
  | closed | close | accept | opn
  deriving DecidableEq, Repr

/-- The members of an owed set (R22). -/
inductive Member where
  | opn | accept | credit | close
  deriving DecidableEq, Repr

/-- What the arbiter can take: a row of Table 4-2 with what it names. -/
inductive Taking where
  | link (kind : LinkFrameKind)
  | statusFrame
  | resend
  | retransmit (e : Entry)
  | answer (a : Answer)
  | ready (i : ChanId) (m : Member)
  | data (i : ChanId) (m : TxMsg)
  | plainStatus
  deriving DecidableEq, Repr

/-! ## The choice (R75, R76) -/

/-- The first owed link frame (R75). -/
def OwedLink.first (o : OwedLink) : Option LinkFrameKind :=
  if o.closed then some .closed else if o.close then some .close else if o.accept then some .accept
  else if o.opn then some .opn else none

/-- The highest-ranked member of an owed set (R23). -/
def Owed.top (o : Owed) : Option Member :=
  if o.opn then some .opn else if o.accept then some .accept else if o.credit then some .credit
  else if o.close.isSome then some .close else none

/-- The window is open (R79). -/
def Link.windowOpen (k : Link) : Bool := decide ((k.vs - k.va).toNat < k.agreed.getD 0)

/-- The head message of a record that is eligible for DATA on link `l` (R84). -/
def Chan.eligible (c : Chan) (l : LinkId) : Option TxMsg :=
  if c.link = l ∧ (c.state = .opened ∨ c.state = .closing) then
    match c.sendQ with
    | m :: _ => if m.blocks ≤ c.available then some m else none
    | [] => none
  else none

/-- The ids in the order of a search that starts after a round-robin pointer and wraps (R84). -/
def searchOrder (ptr : ChanId) : List ChanId := (List.range 32).map fun k => ptr + 1 + Fin.ofNat 32 k

/-- The first eligible channel of a class, with its head message (R84). -/
def State.searchClass (s : State) (l : LinkId) (cls : ChClass) (ptr : ChanId) : Option (ChanId × TxMsg) :=
  (searchOrder ptr).findSome? fun i =>
    if (s.chan i).cls = cls then ((s.chan i).eligible l).map fun m => (i, m) else none

/-- Rank 4: the entry at the go-back pointer (R65, R78). -/
def Link.atPointer (k : Link) : Option Entry := k.goBack.bind fun g => k.rtx.find? fun e => e.ns = g.pointer

/-- Rank 5a (R81). -/
def Link.headAnswer (k : Link) : Option Answer := k.answers.head?

/-- Rank 5b: the head of the control-ready list with its highest-ranked owed member (R83). -/
def State.headReady (s : State) (l : LinkId) : Option (ChanId × Member) :=
  (s.link l).ready.head?.bind fun i => (s.chan i).owed.top.map fun m => (i, m)

/-- Rank 5c: URGENT before NORMAL (R84). -/
def State.chooseData (s : State) (l : LinkId) : Option (ChanId × TxMsg) :=
  (s.searchClass l .urgent (s.link l).rrUrgent).or (s.searchClass l .normal (s.link l).rrNormal)

/-- Rank 5: a new sequenced frame, when the window is open (R79). -/
def State.chooseNew (s : State) (l : LinkId) : Option Taking :=
  let k := s.link l
  if k.windowOpen then
    (k.headAnswer.map Taking.answer).or
      (((s.headReady l).map fun x => Taking.ready x.1 x.2).or ((s.chooseData l).map fun x => Taking.data x.1 x.2))
  else none

/-- The frame that the arbiter of link `l` takes at an opportunity (R75 outside UP, R76 in UP); none when nothing can be taken. -/
def State.choose (s : State) (l : LinkId) : Option Taking :=
  let k := s.link l
  match k.owedLink.first with
  | some f => some (.link f)
  | none =>
    if k.state ≠ .up then none
    else if k.owedSup.answer || k.owedSup.poll then some .statusFrame
    else if k.owedSup.resend then some .resend
    else match k.goBack with
      | some _ => k.atPointer.map Taking.retransmit
      | none => (s.chooseNew l).or (if k.owedSup.ack then some .plainStatus else none)

/-! ## What a taking changes -/

/-- The taking of any frame that carries nr clears ack pending, stops T_ack and removes ACK (R54). -/
def Link.stamp (k : Link) : Link :=
  { k with ackPending := false, tAck := none, owedSup := { k.owedSup with ack := false } }

/-- The frame built from an entry, with the nr of its taking (R51, R65). -/
def Entry.frame (e : Entry) (nr : Seq) : Frame :=
  .seq e.ns nr e.peerCh e.localCh (match e.body with
    | .data m => .data m.payload
    | .ctl c => .ctl c)

/-- The copy of a frame is handed to the line port, whose transmit buffer it occupies (R73, R140). -/
def State.hand (s : State) (l : LinkId) (f : Frame) : State := s.setLine l { s.line l with tx := some { frame := f } }

/-- The entry of a new sequenced frame (R51, R53). -/
def Link.newEntry (k : Link) (dst src : ChanId) (body : EntryBody) : Entry := { ns := k.vs, localCh := src, peerCh := dst, body }

/-- The link record after a new sequenced frame is taken (R53, R54). -/
def Link.appended (k : Link) (e : Entry) : Link :=
  let k1 := { k.stamp with vs := k.vs + 1, rtx := k.rtx ++ [e] }
  if k.rtx.isEmpty then { k1.startResp with tIdle := none } else k1

/-- A new sequenced frame is taken (R53). -/
def State.takeNew (s : State) (l : LinkId) (dst src : ChanId) (body : EntryBody) : State :=
  let k := s.link l
  let e := k.newEntry dst src body
  (s.setLink l (k.appended e)).hand l (e.frame k.vr)

/-- A link frame built from the link record at its taking (R47). -/
def Link.linkFrame (k : Link) : LinkFrameKind → Frame
  | .closed => .linkClosed
  | .close => .linkClose
  | .accept => .linkAccept (k.peerEpoch.getD 0) k.ownEpoch (k.agreed.getD 0)
  | .opn => .linkOpen k.ownEpoch k.par.windowOffer

def OwedLink.remove (o : OwedLink) : LinkFrameKind → OwedLink
  | .closed => { o with closed := false }
  | .close => { o with close := false }
  | .accept => { o with accept := false }
  | .opn => { o with opn := false }

def Owed.remove (o : Owed) : Member → Owed
  | .opn => { o with opn := false }
  | .accept => { o with accept := false }
  | .credit => { o with credit := false }
  | .close => { o with close := none }

/-- The channel frame of a member, with its snapshot of the record (R23). -/
def Chan.snapshot (c : Chan) : Member → Ctl
  | .opn => .opn c.rxWindow
  | .accept => .accept c.rxWindow
  | .credit => .credit c.rxGranted
  | .close => .close (c.owed.close.getD false)

/-- A link frame is taken (R75): nothing else of the link record changes. -/
def State.takeLinkFrame (s : State) (l : LinkId) (f : LinkFrameKind) : State :=
  let k := s.link l
  (s.setLink l { k with owedLink := k.owedLink.remove f }).hand l (k.linkFrame f)

/-- A STATUS for ANSWER or POLL is taken (R77). -/
def State.takeStatus (s : State) (l : LinkId) : State :=
  let k := s.link l
  (s.setLink l { k.stamp with owedSup := { k.stamp.owedSup with answer := false, poll := false } }).hand l
    (.status k.vr k.owedSup.poll k.owedSup.answer)

/-- A RESEND is taken (R62): resend sent stays set. -/
def State.takeResend (s : State) (l : LinkId) : State :=
  let k := s.link l
  (s.setLink l { k.stamp with owedSup := { k.stamp.owedSup with resend := false } }).hand l (.resend k.vr)

/-- The pass after a retransmission: the pointer advances, and the pass ends when it reaches V(s) (R65). -/
def GoBack.advance (g : GoBack) (vs : Seq) : Option GoBack :=
  if g.pointer + 1 = vs then none else some { g with pointer := g.pointer + 1 }

/-- The retransmission of the entry at the go-back pointer is taken (R65, R78). -/
def State.takeRetransmission (s : State) (l : LinkId) (e : Entry) : State :=
  let k := s.link l
  (s.setLink l { k.stamp with
    counters := k.counters.bumpRetransmission, goBack := k.goBack.bind fun g => g.advance k.vs }).hand l (e.frame k.vr)

/-- The head entry of the answer list is taken (R81); no channel record is consulted or changed. -/
def State.takeAnswer (s : State) (l : LinkId) (a : Answer) : State :=
  let k := s.link l
  (s.setLink l { k with answers := k.answers.tail }).takeNew l a.peerCh a.ourCh
    (.ctl (match a.refuse with
      | some r => .refuse r
      | none => .closed))

/-- The record at the head of the control-ready list is served (R83, R23): it moves to the tail, or leaves the list. -/
def State.takeReady (s : State) (l : LinkId) (i : ChanId) (m : Member) : State :=
  let c := s.chan i
  let owed := c.owed.remove m
  let s := s.takeNew l (c.remote.getD 0) i (.ctl (c.snapshot m))
  let s := s.setChan i { c with owed, closeSent := c.closeSent || m == .close }
  let k := s.link l
  s.setLink l { k with ready := k.ready.tail ++ (if owed.isEmpty then [] else [i]) }

/-- The round-robin pointer of the class served becomes the chosen channel (R84). -/
def Link.served (k : Link) (cls : ChClass) (i : ChanId) : Link :=
  match cls with
  | .urgent => { k with rrUrgent := i }
  | .normal => { k with rrNormal := i }

/-- A DATA frame is taken for the chosen channel (R85), and a CLOSING record whose send queue is now empty owes CLOSE. -/
def State.takeData (s : State) (l : LinkId) (i : ChanId) (m : TxMsg) : State :=
  let c := s.chan i
  let s := s.takeNew l (c.remote.getD 0) i (.data m)
  let s := s.setLink l ((s.link l).served c.cls i)
  let s := s.setChan i { c with sendQ := c.sendQ.tail, txUsed := c.txUsed + BitVec.ofNat 8 m.blocks }
  if c.state = .closing ∧ c.sendQ.tail = [] then s.setOwed i { c.owed with credit := false, close := some false } else s

/-- A plain STATUS is taken to meet an owed ACK (R79). -/
def State.takePlainStatus (s : State) (l : LinkId) : State :=
  let k := s.link l
  (s.setLink l k.stamp).hand l (.status k.vr false false)

/-- The changes that a taking makes. -/
def State.take (s : State) (l : LinkId) : Taking → State
  | .link f => s.takeLinkFrame l f
  | .statusFrame => s.takeStatus l
  | .resend => s.takeResend l
  | .retransmit e => s.takeRetransmission l e
  | .answer a => s.takeAnswer l a
  | .ready i m => s.takeReady l i m
  | .data i m => s.takeData l i m
  | .plainStatus => s.takePlainStatus l

/-- A transmit opportunity of link `l` (R73): the line port is enabled, its transmit buffer is free, and something can be taken. -/
def State.arbitrate (s : State) (l : LinkId) : State :=
  let p := s.line l
  if p.enabled && p.tx.isNone then
    match s.choose l with
    | some t => s.take l t
    | none => s
  else s

/-- The end of a step that may make a frame takeable: each idle transmitter takes one (R73; log entry 13). -/
def State.settle (s : State) : State := (s.arbitrate 0).arbitrate 1

end Sys2Proof.Machine
end

