-- ==== Sys2Proof/Machine/Flags.lean ====
section
/-! DEFINITION. The flag bytes that a host reads (R151, R25, R33) and the HINTn output (R164). -/

namespace Sys2Proof.Machine

/-- The status byte (R151): ATT, EVT, DROP, OVF and the number of responses waiting. -/
def HostPort.statusByte (p : HostPort) : Byte :=
  byteOf (bit (p.session = .attached) 7 + bit (!p.events.isEmpty) 6 + bit p.drop 5
    + bit (p.events.any fun e => e.kind = .overflow) 4 + p.responses.length % 16)

/-- The DROP bit of a status byte. -/
def statusDrop (b : Byte) : Bool := b.getLsbD 5

/-- HINTn is asserted while one of the queues is non-empty, and deasserted in RESET (R164, R161). -/
def HostPort.hint (p : HostPort) : Bool :=
  p.session != .reset && (!p.responses.isEmpty || !p.events.isEmpty)

/-- The owed set byte of CH-QUERY (Table 10-11). -/
def Owed.byte (o : Owed) : Byte :=
  byteOf (bit o.opn 0 + bit o.accept 1 + bit o.credit 2 + bit o.close.isSome 3 + bit (o.close.getD false) 4)

/-- The owed link frames byte of LINK-QUERY (Table 10-10). -/
def OwedLink.byte (o : OwedLink) : Byte := byteOf (bit o.closed 0 + bit o.close 1 + bit o.accept 2 + bit o.opn 3)

/-- The flags byte of LINK-QUERY: poll outstanding and go-back pass in progress (Table 10-10). -/
def Link.flagsByte (k : Link) : Byte := byteOf (bit k.pollOutstanding 0 + bit k.goBack.isSome 1)

end Sys2Proof.Machine
end

