-- ==== Sys2Proof/Machine/Operands.lean ====
section
/-! DEFINITION. Request bodies and their checks (R154, R155, R168), and the bodies of the query responses (section 10.3). -/

namespace Sys2Proof.Machine

/-! ## Command codes and lengths -/

/-- The command codes of Table 9-3. -/
def knownCode (code : Byte) : Bool :=
  [0x01#8, 0x02#8, 0x10#8, 0x11#8, 0x12#8, 0x13#8, 0x20#8, 0x21#8, 0x22#8, 0x23#8, 0x24#8, 0x30#8, 0x31#8, 0x40#8].contains code

/-- Whether a declared body length is one that the command accepts (Table 9-3). -/
def acceptsLength (code : Byte) (len : Nat) : Bool :=
  if code = 0x01#8 ∨ code = 0x02#8 ∨ code = 0x40#8 then len == 0
  else if code = 0x10#8 then len == 2 || len == 10
  else if code = 0x20#8 ∨ code = 0x21#8 then len == 5
  else if code = 0x30#8 then decide (3 ≤ len)
  else len == 1

/-- The checks common to all commands, in order: the first that fails (R155). -/
def commonCheck (h : ReqHeader) (arrived : Nat) (attached : Bool) : Option Result :=
  if arrived ≠ h.len.toNat ∨ (knownCode h.code ∧ !acceptsLength h.code h.len.toNat) then some .length
  else if !knownCode h.code then some .unknown
  else if !attached ∧ h.code ≠ 0x01#8 then some .notAttached
  else none

/-! ## Reading a body by position (R168) -/

/-- Byte `k` of a body as a number. -/
def bodyAt (body : List Byte) (k : Nat) : Nat := (body.getD k 0#8).toNat

/-- The two-byte field at `k` of a body. -/
def bodyAt2 (body : List Byte) (k : Nat) : Nat := fromBe16 (body.getD k 0#8) (body.getD (k + 1) 0#8)

/-- The start mode of a byte that has passed its check. -/
def modeOf (n : Nat) : StartMode := if n = 0 then .active else .passive

/-- The class of a byte that has passed its check. -/
def classOf (n : Nat) : ChClass := if n = 0 then .normal else .urgent

/-- The parameters of a LINK-START body, short form or full form (Table 2-3). -/
def startParams (body : List Byte) : Params :=
  if body.length = 10 then
    { mode := modeOf (bodyAt body 1), windowOffer := bodyAt body 2, rateCode := bodyAt body 3, tAck := bodyAt body 4,
      tResp := bodyAt2 body 5, tIdle := bodyAt2 body 7, nRetry := bodyAt body 9 }
  else Params.defaults (modeOf (bodyAt body 1))

/-- Whether parameters lie in the ranges of Table 2-3 (R28). -/
def Params.inRange (q : Params) : Bool :=
  decide (1 ≤ q.windowOffer ∧ q.windowOffer ≤ 16 ∧ q.rateCode ≤ 7 ∧ 1 ≤ q.tAck ∧ q.tAck ≤ 255
    ∧ 10 ≤ q.tResp ∧ q.tResp ≤ 10000 ∧ (q.tIdle = 0 ∨ (100 ≤ q.tIdle ∧ q.tIdle ≤ 60000)) ∧ 1 ≤ q.nRetry ∧ q.nRetry ≤ 15)

/-- The BAD-ARG check of LINK-START (R28). -/
def startBadArg (body : List Byte) : Bool :=
  decide (1 < bodyAt body 0 ∨ 1 < bodyAt body 1) || !(startParams body).inRange

/-- The body of a CH-LISTEN or CH-OPEN (section 1.3). -/
structure TakeBody where
  localId : Nat
  link : Nat
  remote : Nat
  rxWindow : Nat
  cls : Nat
  deriving DecidableEq, Repr

def takeBody (body : List Byte) : TakeBody :=
  { localId := bodyAt body 0, link := bodyAt body 1, remote := bodyAt body 2, rxWindow := bodyAt body 3, cls := bodyAt body 4 }

/-- A value in 32..254, which is neither an id nor H'FF. -/
def between (n : Nat) : Bool := decide (32 ≤ n ∧ n ≤ 254)

/-- The part of the BAD-ARG check that CH-LISTEN and CH-OPEN share (R6, R7). -/
def TakeBody.badCommon (b : TakeBody) : Bool :=
  between b.localId || decide (1 < b.link ∨ b.rxWindow = 0 ∨ 64 < b.rxWindow ∨ 1 < b.cls)

/-- The BAD-ARG check of CH-LISTEN (R6). -/
def TakeBody.badListen (b : TakeBody) : Bool := b.badCommon || between b.remote

/-- The BAD-ARG check of CH-OPEN (R7): ANY is not accepted. -/
def TakeBody.badOpen (b : TakeBody) : Bool := b.badCommon || decide (31 < b.remote)

/-! ## Query responses -/

/-- A 16-bit counter as two bytes. -/
def counterBytes (c : Counter) : List Byte := be16 c.toNat

/-- The LINK-QUERY response body (Table 10-10): absent fields read 0, and a VACANT controller reads H'FF (R33). -/
def Link.queryBody (k : Link) (l : LinkId) : List Byte :=
  let par (f : Params → Nat) : Nat := (k.params.map f).getD 0
  let inUp (n : Nat) : Byte := if k.state = .up then byteOf n else 0#8
  [byteOf l.val, byteOf k.state.code,
    match k.controller with | some n => byteOf n.val | none => 0xFF#8,
    byteOf (par fun q => q.mode.code), byteOf (par fun q => q.windowOffer), byteOf (par fun q => q.rateCode),
    byteOf (par fun q => q.tAck)]
  ++ be16 (par fun q => q.tResp) ++ be16 (par fun q => q.tIdle)
  ++ [byteOf (par fun q => q.nRetry), k.ownEpoch, k.peerEpoch.getD 0#8, byteOf (k.agreed.getD 0),
    inUp k.vs.toNat, inUp k.va.toNat, inUp k.vr.toNat, inUp k.rtx.length, inUp k.ready.length, inUp k.answers.length,
    if k.state = .starting ∨ k.state = .up ∨ k.state = .stopping then byteOf k.retry else 0#8,
    if k.state = .up then k.flagsByte else 0#8, k.owedLink.byte, reasonByte k.lastReason]
  ++ counterBytes k.counters.framesSent ++ counterBytes k.counters.goodFrames ++ counterBytes k.counters.retransmissions
  ++ counterBytes k.counters.crcErrors ++ counterBytes k.counters.formatErrors ++ counterBytes k.counters.overruns
  ++ counterBytes k.counters.outOfSequence ++ counterBytes k.counters.stray ++ counterBytes k.counters.violations

/-- The CH-QUERY response body (Table 10-11): a field absent in the record's state (Table 1-2) reads 0 (R25). -/
def Chan.queryBody (c : Chan) (i : ChanId) : List Byte :=
  let whenIn (states : List ChState) (b : Byte) : Byte := if states.contains c.state then b else 0#8
  let live : List ChState := [.listen, .opening, .opened, .closing, .ended, .aborting]
  let paired : List ChState := [.opened, .closing]
  let granting : List ChState := [.opening, .opened, .closing]
  [byteOf i.val, byteOf c.state.code, whenIn live (byteOf c.owner.val), whenIn live (byteOf c.link.val),
    whenIn live (match c.remote with | some r => byteOf r.val | none => 0xFF#8),
    whenIn live (byteOf c.cls.code), whenIn live (byteOf c.rxWindow), whenIn paired (byteOf c.peerWindow),
    whenIn paired c.txLimit, whenIn paired c.txUsed, whenIn granting c.rxGranted, whenIn granting c.rxConsumed,
    whenIn live (byteOf c.rxHeld), whenIn paired (byteOf c.sendQ.length),
    whenIn [.listen, .opening, .opened, .closing, .ended] (byteOf c.recvQ.length),
    whenIn live c.owed.byte, whenIn [.closing, .aborting] (flagByte c.closeSent),
    whenIn [.ended] (reasonByte c.endReason), whenIn [.listen] (byteOf c.refusedAttempts)]

/-- The POOL-QUERY response body (Table 10-13). -/
def Pool.queryBody (p : Pool) : List Byte :=
  be16 Config.poolBlocks ++ be16 p.free ++ be16 p.tx ++ be16 p.rx ++ be16 p.reserved ++ be16 p.unreserved
  ++ [byteOf p.usage[0], byteOf p.usage[1], byteOf p.usage[2], byteOf Config.quota, byteOf p.creditOwed.length]
  ++ p.creditOwed.map fun i => byteOf i.val

/-- The ATTACH response body (R158). -/
def attachBody (p : Slot) : List Byte :=
  [byteOf p.val, 1#8] ++ be16 Config.poolBlocks ++ be16 Config.quota ++ [32#8, 2#8]

end Sys2Proof.Machine
end

