-- ==== Sys2Proof/Machine/HostPort.lean ====
section
/-! DEFINITION. Host transactions: how a command meets the transaction in progress (R150), the taking of a request (R154 to R156),
reads (R157, R163) and the end of a session (R159). -/

namespace Sys2Proof.Machine

/-- The outcome of a command. -/
abbrev StepOutcome := Host.Outcome State Fault Refusal

/-- The end of a step that may make a frame takeable (R73). -/
def settled (o : StepOutcome) : StepOutcome :=
  match o with
  | .next s => .next s.settle
  | .fault r => .fault r
  | .refused r => .refused r

/-- `n` bytes of H'00 (Table 9-2). -/
def zeros (n : Nat) : List Byte := List.replicate n 0#8

/-- The first `n` bytes of a returned stream that goes on with H'00. -/
def firstOf (n : Nat) (bs : List Byte) : List Byte := bs.take n ++ zeros (n - bs.length)

/-- Whether the port takes transactions at all: not while RESET is low (R169), nor in RESET (R161). -/
def State.portLive (s : State) (p : Slot) : Bool := !s.resetLow && (s.port p).session != .reset

/-- Chip select rises: the port returns to IDLE (R150), having returned the last bytes. -/
def State.rise (s : State) (p : Slot) (returned : List Byte) : State :=
  let x := s.port p
  s.setPort p { x with csLow := false, txn := .idle, hso := x.hso ++ returned }

/-- Change one port. -/
def State.updPort (s : State) (p : Slot) (f : HostPort → HostPort) : State := s.setPort p (f (s.port p))

/-- A transaction that ends with nothing taken, because the port is in RESET, the part is held by RESET, or the transaction is
ignored (R150, R161, R169). HSOn is undriven in RESET, and returns H'00 in IGNORE. -/
def State.riseIgnored (s : State) (p : Slot) (clocked : Nat) : State :=
  s.rise p (if s.portLive p then zeros clocked else [])

/-- A command that ends a transaction (log entries 5 and 17): chip select must be low; nothing is taken when the port takes no
transaction or ignores this one; otherwise the transaction state decides. -/
def State.endTransaction (s : State) (p : Slot) (clocked : Nat) (act : Txn → Option State) : StepOutcome :=
  if !(s.port p).csLow then .refused .chipSelectHigh
  else if !s.portLive p || (s.port p).txn = .ignore then .next (s.riseIgnored p clocked)
  else match act (s.port p).txn with
    | some s' => .next s'
    | none => .refused .otherTransaction

/-! ## Requests -/

/-- What a command answers: a result, the body that goes with OK, and the message that a RECV response holds (R156). -/
structure Reply where
  result : Result
  body : List Byte := []
  msg : Option RxMsg := none
  deriving DecidableEq, Repr

/-- The reply of a refused command (R156). -/
def refusedReply (r : Result) : Reply := { result := r }

/-- The reply of a command that is taken. -/
def okReply (body : List Byte) : Reply := { result := .ok, body }

/-- A response is posted at the tail of the port's response queue (R156). -/
def HostPort.respond (x : HostPort) (h : ReqHeader) (r : Reply) : HostPort :=
  { x with responses := x.responses ++ [{ tag := h.tag, code := h.code, result := r.result, body := r.body, msg := r.msg }] }

/-- A staged message is freed, and the credit-owed list is served (R93). -/
def State.freeStaged (s : State) (p : Slot) (st : Staging) : State :=
  match st with
  | .granted len => (s.setPool (s.pool.freeTx p (blocksOf len))).serve
  | .none | .refused _ => s

/-- The command part of a request, once the common checks have passed: the state it leaves and its reply. -/
abbrev Action := ReqHeader → Staging → State → State × Reply

/-- A request is taken at the end of its write transaction (R154): the common checks (R155), then the command; its response is
posted (R156), and the port returns to IDLE. A staged message is freed when a common check refuses its SEND (R109). -/
def State.answerRequest (s : State) (p : Slot) (h : ReqHeader) (st : Staging) (body : List Byte) (act : Action) : State :=
  let out := match commonCheck h body.length (decide ((s.port p).session = .attached)) with
    | some r => (s.freeStaged p st, refusedReply r)
    | none => act h st s
  (out.1.updPort p fun x => x.respond h out.2).rise p (zeros body.length)

/-- A host request of the row whose command codes are `row`, on port `p`. -/
def State.request (s : State) (p : Slot) (row : Byte → Bool) (body : List Byte) (act : Action) : StepOutcome :=
  s.endTransaction p body.length fun t => match t with
    | .writeBody h st => if row h.code then some (s.answerRequest p h st body act) else none
    | _ => none

/-! ## Owned records -/

/-- The checks that CH-CLOSE, CH-RELEASE, RECV and SEND begin with: the channel is an id (BAD-ARG), and the record is not FREE and
is owned by the issuer (NOT-OWNER). -/
def State.owned (s : State) (p : Slot) (n : Nat) : Except Result ChanId :=
  match chanOf n with
  | none => .error .badArg
  | some i => if (s.chan i).state = .free ∨ (s.chan i).owner ≠ p then .error .notOwner else .ok i

/-! ## Sessions -/

/-- The controller role of slot `p` in link `l`, if it has it, becomes VACANT, with LINK-VACANT posted if the link is not in DOWN (R34). -/
def State.vacate (s : State) (p : Slot) (l : LinkId) : State :=
  let k := s.link l
  if k.controller = some p then
    let s := s.setLink l { k with controller := none }
    if k.state = .down then s else s.postOthers p (linkEvent l .linkVacant none 0)
  else s

/-- The session of slot `p` ends (R159): its records, its controller roles, its event queue, its session. DESIGN CHOICE (log entry 24,
unsafe): when both roles become VACANT the LINK-VACANT events of link 0 are posted before those of link 1, an order that R34, R159 and
R162 leave open. -/
def State.endSession (s : State) (p : Slot) : State :=
  (((s.endSessionRecords p).vacate p 0).vacate p 1).updPort p fun x => { x with events := [], session := .detached }

/-! ## Reads -/

/-- The bytes a READ-RESPONSE returns: header, body, and the payload of a RECV message (R157, R168). -/
def Response.bytes (r : Response) : List Byte :=
  let body := r.body ++ (match r.msg with | some m => m.payload | none => [])
  [r.tag, r.code, byteOf r.result.code] ++ be16 body.length ++ body

/-- The six bytes of an event record (R163, Table 10-8). -/
def Event.bytes (e : Event) : List Byte :=
  [byteOf e.kind.code, byteOf e.link.val, byteOf e.channel.val, reasonByte e.reason] ++ be16 e.arg

/-- The event queue after a complete read of the chosen record (R163): an OVERFLOW record into which posts were counted during the
read stays, with that number. -/
def eventsAfterRead (chosen : Event) (counted : Nat) (q : List Event) : List Event :=
  if chosen.kind = .overflow ∧ counted ≠ 0 then overflowRecord counted :: q.tail else q.tail

end Sys2Proof.Machine
end

