-- ==== Sys2Proof/Machine/ChannelCommands.lean ====
section
/-! DEFINITION. The commands of a channel: CH-LISTEN, CH-OPEN, CH-QUERY (chapter 1), CH-CLOSE, CH-RELEASE (chapter 7). -/

namespace Sys2Proof.Machine

/-- The remote id of a request: H'FF is ANY (section 1.3). -/
def remoteOf (n : Nat) : Option ChanId := chanOf n

/-- The record that CH-LISTEN leaves (R6). -/
def listening (p : Slot) (l : LinkId) (b : TakeBody) : Chan :=
  { state := .listen, owner := p, link := l, remote := remoteOf b.remote, cls := classOf b.cls, rxWindow := b.rxWindow }

/-- The command part of CH-LISTEN (R5, R6). -/
def State.doChListen (p : Slot) (body : List Byte) : Action := fun _ _ s =>
  let b := takeBody body
  if b.badListen then (s, refusedReply .badArg) else
  match linkOf b.link, s.resolve b.localId with
  | none, _ => (s, refusedReply .badArg)
  | _, .error r => (s, refusedReply r)
  | some l, .ok i => (s.setChan i (listening p l b), okReply [byteOf i.val])

/-- CH-LISTEN, code H'20 (R6). -/
def execChListen (p : Slot) (body : List Byte) (s : State) : StepOutcome :=
  s.request p (· == 0x20#8) body (State.doChListen p body)

/-- The record that CH-OPEN leaves, before OPEN is made owed (R8). -/
def openingRecord (p : Slot) (l : LinkId) (b : TakeBody) : Chan :=
  { state := .opening, owner := p, link := l, remote := remoteOf b.remote, cls := classOf b.cls, rxWindow := b.rxWindow,
    rxGranted := BitVec.ofNat 8 b.rxWindow }

/-- A record enters OPENING (R8, R95): the reservation is made, and OPEN is owed. -/
def State.openRecord (s : State) (i : ChanId) (p : Slot) (l : LinkId) (b : TakeBody) : State :=
  ((s.setChan i (openingRecord p l b)).setPool (s.pool.reserve b.rxWindow)).setOwed i { opn := true }

/-- The command part of CH-OPEN (R5, R7). -/
def State.doChOpen (p : Slot) (body : List Byte) : Action := fun _ _ s =>
  let b := takeBody body
  if b.badOpen then (s, refusedReply .badArg) else
  match linkOf b.link, s.resolve b.localId with
  | none, _ => (s, refusedReply .badArg)
  | _, .error r => (s, refusedReply r)
  | some l, .ok i =>
    if (s.link l).state ≠ .up then (s, refusedReply .linkNotUp)
    else if s.pool.unreserved < b.rxWindow then (s, refusedReply .noBuffer)
    else (s.openRecord i p l b, okReply [byteOf i.val])

/-- CH-OPEN, code H'21 (R7, R8). -/
def execChOpen (p : Slot) (body : List Byte) (s : State) : StepOutcome :=
  settled (s.request p (· == 0x21#8) body (State.doChOpen p body))

/-- An OPEN record enters CLOSING (R123). -/
def State.closeRecord (s : State) (i : ChanId) : State :=
  let c := s.chan i
  let s := s.setChan i { c with state := .closing, closeSent := false }
  let s := s.setCreditOwed (s.pool.creditOwed.filter (· != i))
  if c.sendQ.isEmpty then s.setOwed i { c.owed with credit := false, close := some false } else s

/-- The command part of CH-CLOSE (R123). -/
def State.doChClose (p : Slot) (body : List Byte) : Action := fun _ _ s =>
  match s.owned p (bodyAt body 0) with
  | .error r => (s, refusedReply r)
  | .ok i =>
    if (s.chan i).state ≠ .opened then (s, refusedReply .badState)
    else (s.closeRecord i, okReply [byteOf (s.chan i).sendQ.length])

/-- CH-CLOSE, code H'22 (R123). -/
def execChClose (p : Slot) (body : List Byte) (s : State) : StepOutcome :=
  settled (s.request p (· == 0x22#8) body (State.doChClose p body))

/-- The command part of CH-RELEASE (R127). -/
def State.doChRelease (p : Slot) (body : List Byte) : Action := fun _ _ s =>
  match s.owned p (bodyAt body 0) with
  | .error r => (s, refusedReply r)
  | .ok i =>
    let c := s.chan i
    if c.state = .aborting then (s, refusedReply .badState)
    else (s.giveUp i, okReply [byteOf c.sendQ.length, byteOf c.recvQ.length])

/-- CH-RELEASE, code H'23 (R127). -/
def execChRelease (p : Slot) (body : List Byte) (s : State) : StepOutcome :=
  settled (s.request p (· == 0x23#8) body (State.doChRelease p body))

/-- The command part of CH-QUERY (R25). -/
def State.doChQuery (body : List Byte) : Action := fun _ _ s =>
  match chanOf (bodyAt body 0) with
  | none => (s, refusedReply .badArg)
  | some i => (s, okReply ((s.chan i).queryBody i))

/-- CH-QUERY, code H'24 (R25). -/
def execChQuery (p : Slot) (body : List Byte) (s : State) : StepOutcome :=
  s.request p (· == 0x24#8) body (State.doChQuery body)

end Sys2Proof.Machine
end

