-- ==== Sys2Proof/Machine/LinkFrames.lean ====
section
/-! DEFINITION. The link frames and the supervisory frames, as the link engine takes them (R37 to R42, R55, R63, R69, R70). -/

namespace Sys2Proof.Machine

/-- The engine takes the oldest held frame of its port, whose buffer becomes FREE (R146): `act` gives the effect when the frame is of
the row's kind. -/
def State.takeHeld (s : State) (l : LinkId) (act : Frame → Option (State → State)) : StepOutcome :=
  match (s.line l).held with
  | f :: rest => match act f with
    | some g => .next (g (s.setLine l { s.line l with held := rest })).settle
    | none => .refused .noSuchFrameHeld
  | [] => .refused .noSuchFrameHeld

/-- A LINK frame that keeps the sequenced state restarts T_idle when it runs (R68). -/
def State.touchIdle (s : State) (l : LinkId) : State := s.setLink l (s.link l).touchIdle

/-- A LINK-OPEN in UP: a duplicate or a peer restart (R40). -/
def State.openInUp (s : State) (l : LinkId) (sender : Byte) (window : Nat) : State :=
  if (s.link l).peerEpoch = some sender then
    s.setLink l (s.link l).touchIdle.oweAccept
  else
    let s := s.teardown l .peerRestart
    let k := s.link l
    (s.setLink l (k.enterUp sender (min k.par.windowOffer window)).oweAccept).postLinkReason l .linkReset .peerRestart

/-- A LINK-OPEN taken, by the state of the link (R37, R40, Table 2-5). -/
def State.takeLinkOpen (s : State) (l : LinkId) (sender : Byte) (window : Nat) : State :=
  let k := s.link l
  match k.state with
  | .listening | .starting =>
    let s := s.establish l sender (min k.par.windowOffer window)
    s.setLink l (s.link l).oweAccept
  | .up => s.openInUp l sender window
  | .down | .stopping | .failed => s

/-- LINK_OPEN: a received LINK-OPEN (R37, R40). -/
def execLinkOpen (l : LinkId) (s : State) : StepOutcome :=
  s.takeHeld l fun f => match f with
    | .linkOpen sender window => some fun s => s.takeLinkOpen l sender window
    | _ => none

/-- A LINK-ACCEPT taken, by the state of the link (R38, Table 2-5). -/
def State.takeLinkAccept (s : State) (l : LinkId) (echoed sender : Byte) (window : Nat) : State :=
  let k := s.link l
  match k.state with
  | .starting => if echoed = k.ownEpoch then s.establish l sender (min k.par.windowOffer window) else s
  | .up => s.touchIdle l
  | .down | .listening | .stopping | .failed => s

/-- LINK_ACCEPT: a received LINK-ACCEPT (R38). -/
def execLinkAccept (l : LinkId) (s : State) : StepOutcome :=
  s.takeHeld l fun f => match f with
    | .linkAccept echoed sender window => some fun s => s.takeLinkAccept l echoed sender window
    | _ => none

/-- A LINK-CLOSE taken, by the state of the link (R41, R42): always answered. -/
def State.takeLinkClose (s : State) (l : LinkId) : State :=
  match (s.link l).state with
  | .up =>
    let s := s.teardown l .peerStopped
    (s.setLink l (s.link l).oweClosed).enterDown l .peerStopped
  | .stopping => (s.setLink l (s.link l).oweClosed).completeStop l .stopped
  | .down | .listening | .starting | .failed => s.setLink l (s.link l).oweClosed

/-- LINK_CLOSE: a received LINK-CLOSE (R41, R42). -/
def execLinkClose (l : LinkId) (s : State) : StepOutcome :=
  s.takeHeld l fun f => match f with
    | .linkClose => some fun s => s.takeLinkClose l
    | _ => none

/-- A LINK-CLOSED taken, by the state of the link (R41, R42). -/
def State.takeLinkClosed (s : State) (l : LinkId) : State :=
  match (s.link l).state with
  | .stopping => s.completeStop l .stopped
  | .up => s.touchIdle l
  | .down | .listening | .starting | .failed => s

/-- LINK_CLOSED: a received LINK-CLOSED (R41, R42). -/
def execLinkClosed (l : LinkId) (s : State) : StepOutcome :=
  s.takeHeld l fun f => match f with
    | .linkClosed => some fun s => s.takeLinkClosed l
    | _ => none

/-- A STATUS with the answer flag, taken after its nr (R70). -/
def Link.takeAnswerFlag (k : Link) : Link :=
  if k.pollOutstanding then
    let k1 := { k with pollOutstanding := false, retry := 0, owedSup := { k.owedSup with poll := false } }
    if k.rtx.isEmpty then { k1 with tResp := none }.startIdle else k1.startPass.startResp
  else k

/-- A STATUS with the poll flag, taken after its nr (R69). -/
def Link.takePollFlag (k : Link) : Link := { k with owedSup := { k.owedSup with answer := true } }

/-- The flags of a STATUS: the poll first, then the answer (R69, R70). -/
def Link.takeStatusFlags (k : Link) (poll answer : Bool) : Link :=
  let k1 := if poll then k.takePollFlag else k
  if answer then k1.takeAnswerFlag else k1

/-- STATUS: a received STATUS (R55, R69, R70). -/
def execStatus (l : LinkId) (s : State) : StepOutcome :=
  s.takeHeld l fun f => match f with
    | .status nr poll answer =>
      some fun s => s.withNr l nr fun s => s.setLink l ((s.link l).takeStatusFlags poll answer)
    | _ => none

/-- A RESEND after its nr has been processed (R63). -/
def Link.takeResend (k : Link) : Link :=
  if k.rtx.isEmpty then k
  else if (k.goBack.map GoBack.start) = some k.va then k.startResp
  else k.startPass.startResp

/-- RESEND: a received RESEND (R63). -/
def execResend (l : LinkId) (s : State) : StepOutcome :=
  s.takeHeld l fun f => match f with
    | .resend nr => some fun s => s.withNr l nr fun s => s.setLink l (s.link l).takeResend
    | _ => none

end Sys2Proof.Machine
end

