-- ==== Sys2Proof/Machine/ChannelFrames.lean ====
section
/-! DEFINITION. The sequenced frames, as the link engine accepts them and the channel table takes them (sections 1.4, 1.5, 5.5, 5.7,
7.5). -/

namespace Sys2Proof.Machine

/-- A sequenced frame of the row's content is taken from the oldest held buffer (R146, R55, R61). -/
def State.takeHeldSequenced (s : State) (l : LinkId)
    (deliver : ChanId → ChanId → Content → Option (State → State)) : StepOutcome :=
  s.takeHeld l fun f => match f with
    | .seq ns nr dst src c => (deliver dst src c).map fun g s => s.takeSequenced l ns nr g
    | _ => none

/-! ## The answer list (R80) -/

/-- An entry is handed to an answer list: it replaces the entry for the same peer channel in its place, or joins the tail (R80). -/
def pushAnswer (a : Answer) (q : List Answer) : List Answer :=
  if q.any (fun b => b.peerCh == a.peerCh) then q.map fun b => if b.peerCh == a.peerCh then a else b else q ++ [a]

def State.answer (s : State) (l : LinkId) (a : Answer) : State :=
  let k := s.link l
  s.setLink l { k with answers := pushAnswer a k.answers }

/-- A CHAN-OPEN is refused (R12). -/
def State.refuseOpen (s : State) (l : LinkId) (dst src : ChanId) (r : Reason) : State :=
  s.answer l { refuse := some r, peerCh := src, ourCh := dst }

/-! ## DATA (R97 to R99, R116) -/

/-- MSG-ARRIVED of a placement into an empty receive queue (R116). -/
def State.announce (s : State) (i : ChanId) (len : Nat) : State :=
  s.postTo (s.chan i).owner (s.chanEvent i .msgArrived none len)

/-- Placement (R97), with MSG-ARRIVED (R116). -/
def State.place (s : State) (i : ChanId) (payload : List Byte) : State :=
  let c := s.chan i
  let m : RxMsg := { channel := i, payload }
  let s := s.setPool (s.pool.place m.blocks)
  let s := s.setChan i { c with
    rxConsumed := c.rxConsumed + BitVec.ofNat 8 m.blocks, rxHeld := c.rxHeld + m.blocks, recvQ := c.recvQ ++ [m] }
  if c.recvQ.isEmpty then s.announce i payload.length else s

/-- A credit violation (R98): counted, the record aborted, CH-ENDED(VIOLATION) posted. -/
def State.violate (s : State) (l : LinkId) (i : ChanId) : State :=
  let c := s.chan i
  let s := (s.count l Counters.bumpViolation).abortChan i
  s.postTo c.owner (s.chanEvent i .chEnded (some .violation) c.sendQ.length)

/-- A DATA frame handed to the channel table. -/
def State.deliverData (s : State) (l : LinkId) (dst src : ChanId) (payload : List Byte) : State :=
  let c := s.chan dst
  if c.fits l src ∧ (c.state = .opened ∨ c.state = .closing) then
    if blocksOf payload.length ≤ c.outstanding then s.place dst payload else s.violate l dst
  else s.stray l

/-- DATA: a received DATA frame (R97). -/
def execData (l : LinkId) (s : State) : StepOutcome :=
  s.takeHeldSequenced l fun dst src c => match c with
    | .data payload => some fun s => s.deliverData l dst src payload
    | _ => none

/-! ## CHAN-OPEN (R12 to R16) -/

/-- A LISTEN record accepts (R13, R95). -/
def State.acceptOpen (s : State) (i src : ChanId) (window : Nat) : State :=
  let c := s.chan i
  let s := s.setPool (s.pool.reserve c.rxWindow)
  let s := s.setChan i { c with
    remote := some src, rxConsumed := 0, rxGranted := BitVec.ofNat 8 c.rxWindow, refusedAttempts := 0 }
  (s.enterOpen i window).setOwed i { accept := true }

/-- A crossing open (R15): an OPEN still owed is replaced by ACCEPT. -/
def State.crossOpen (s : State) (i : ChanId) (window : Nat) : State :=
  let o := (s.chan i).owed
  let s := s.enterOpen i window
  if o.opn then s.setOwed i { o with opn := false, accept := true } else s

/-- The reservation of a listener falls short (R14). -/
def State.listenerShort (s : State) (l : LinkId) (dst src : ChanId) : State :=
  let c := s.chan dst
  (s.setChan dst { c with refusedAttempts := min (c.refusedAttempts + 1) 255 }).refuseOpen l dst src .noBuffer

/-- A CHAN-OPEN handed to the channel table, by the state of the addressed record (Table 1-4). -/
def State.deliverOpen (s : State) (l : LinkId) (dst src : ChanId) (window : Nat) : State :=
  let c := s.chan dst
  match c.state with
  | .free => (s.refuseOpen l dst src .noListener).stray l
  | .listen =>
    if c.link = l ∧ (c.remote = none ∨ c.remote = some src) then
      if c.rxWindow ≤ s.pool.unreserved then s.acceptOpen dst src window else s.listenerShort l dst src
    else (s.refuseOpen l dst src .noListener).stray l
  | .opening => if c.fits l src then s.crossOpen dst window else (s.refuseOpen l dst src .busy).stray l
  | .opened | .closing | .ended | .aborting => (s.refuseOpen l dst src .busy).stray l

/-- CHAN_OPEN: a received CHAN-OPEN (R13). -/
def execChanOpen (l : LinkId) (s : State) : StepOutcome :=
  s.takeHeldSequenced l fun dst src c => match c with
    | .ctl (.opn w) => some fun s => s.deliverOpen l dst src w
    | _ => none

/-! ## CHAN-ACCEPT and CHAN-REFUSE (R17 to R21) -/

/-- A CHAN-ACCEPT handed to the channel table (R18). -/
def State.deliverAccept (s : State) (l : LinkId) (dst src : ChanId) (window : Nat) : State :=
  let c := s.chan dst
  if c.fits l src ∧ c.state = .opening ∧ !c.owed.opn then s.enterOpen dst window else s.stray l

/-- CHAN_ACCEPT: a received CHAN-ACCEPT (R18). -/
def execChanAccept (l : LinkId) (s : State) : StepOutcome :=
  s.takeHeldSequenced l fun dst src c => match c with
    | .ctl (.accept w) => some fun s => s.deliverAccept l dst src w
    | _ => none

/-- A CHAN-REFUSE handed to the channel table (R19 to R21). -/
def State.deliverRefuse (s : State) (l : LinkId) (dst src : ChanId) (r : Reason) : State :=
  let c := s.chan dst
  if c.fits l src ∧ c.state = .opening ∧ !c.owed.opn then s.endChan dst r
  else if c.fits l src ∧ c.state = .aborting then s.freeAborted dst
  else s.stray l

/-- CHAN_REFUSE: a received CHAN-REFUSE (R19, R20). -/
def execChanRefuse (l : LinkId) (s : State) : StepOutcome :=
  s.takeHeldSequenced l fun dst src c => match c with
    | .ctl (.refuse r) => some fun s => s.deliverRefuse l dst src r
    | _ => none

/-! ## CHAN-CLOSE and CHAN-CLOSED (R126, R128 to R132) -/

/-- The end reason given by a CHAN-CLOSE (R128). -/
def closeReason (abort : Bool) : Reason := if abort then .peerAborted else .peerClosed

/-- The change of the addressed record by a CHAN-CLOSE (Table 7-3). -/
def State.closeEffect (s : State) (l : LinkId) (dst src : ChanId) (abort : Bool) : State :=
  let c := s.chan dst
  if c.fits l src then
    match c.state with
    | .opening | .opened => s.endChan dst (closeReason abort)
    | .closing => if c.closeSent then s else s.endChan dst (closeReason abort)
    | .aborting => if c.closeSent then s else s.freeAborted dst
    | .free | .listen | .ended => s.stray l
  else s.stray l

/-- A CHAN-CLOSE handed to the channel table: always answered by CHAN-CLOSED (R128 to R132). -/
def State.deliverClose (s : State) (l : LinkId) (dst src : ChanId) (abort : Bool) : State :=
  (s.closeEffect l dst src abort).answer l { refuse := none, peerCh := src, ourCh := dst }

/-- CHAN_CLOSE: a received CHAN-CLOSE (R128). -/
def execChanClose (l : LinkId) (s : State) : StepOutcome :=
  s.takeHeldSequenced l fun dst src c => match c with
    | .ctl (.close abort) => some fun s => s.deliverClose l dst src abort
    | _ => none

/-- A CHAN-CLOSED handed to the channel table (R126, R131, R132). -/
def State.deliverClosed (s : State) (l : LinkId) (dst src : ChanId) : State :=
  let c := s.chan dst
  if c.fits l src ∧ c.closeSent then
    match c.state with
    | .closing => s.endChan dst .closed
    | .aborting => s.freeAborted dst
    | .free | .listen | .opening | .opened | .ended => s.stray l
  else s.stray l

/-- CHAN_CLOSED: a received CHAN-CLOSED (R131). -/
def execChanClosed (l : LinkId) (s : State) : StepOutcome :=
  s.takeHeldSequenced l fun dst src c => match c with
    | .ctl .closed => some fun s => s.deliverClosed l dst src
    | _ => none

/-! ## CHAN-CREDIT (R102) -/

/-- Whether a limit is taken: an advance of 1..128 within the peer window (R102). -/
def Chan.takesLimit (c : Chan) (limit : Credit) : Bool :=
  decide (1 ≤ (limit - c.txLimit).toNat ∧ (limit - c.txLimit).toNat ≤ 128 ∧ (limit - c.txUsed).toNat ≤ c.peerWindow)

/-- A CHAN-CREDIT handed to the channel table (R102). -/
def State.deliverCredit (s : State) (l : LinkId) (dst src : ChanId) (limit : Credit) : State :=
  let c := s.chan dst
  if c.fits l src ∧ (c.state = .opened ∨ c.state = .closing) then
    if c.takesLimit limit then s.setChan dst { c with txLimit := limit } else s
  else s.stray l

/-- CHAN_CREDIT: a received CHAN-CREDIT (R102). -/
def execChanCredit (l : LinkId) (s : State) : StepOutcome :=
  s.takeHeldSequenced l fun dst src c => match c with
    | .ctl (.credit limit) => some fun s => s.deliverCredit l dst src limit
    | _ => none

end Sys2Proof.Machine
end

