-- ==== Sys2Proof/Machine/Receiver.lean ====
section
/-! DEFINITION. The receiver of a line port: the character table of R142, with the start and the end of a body (R143, R144). -/

namespace Sys2Proof.Machine

/-- What the port reports to its link engine (R142 to R146). -/
inductive Report where
  | good | crcError | formatError | overrun
  deriving DecidableEq, Repr

/-- The counter that a report raises (R49). A good frame is counted at its report (log entry 11). -/
def Report.bump : Report → Counters → Counters
  | .good => Counters.bumpGood
  | .crcError => Counters.bumpCrc
  | .formatError => Counters.bumpFormat
  | .overrun => Counters.bumpOverrun

/-- The frame being received is discarded: its buffer is freed at once and the cause is reported (R142). -/
def LinePort.discard (p : LinePort) (rx : RxState) (cause : Report) : LinePort × Option Report :=
  ({ p with filling := none, rx }, some cause)

/-- A byte is stored in the body being received; as the 1034th it discards the frame (R142). -/
def LinePort.store (p : LinePort) (b : Byte) : LinePort × Option Report :=
  let bs := p.filling.getD []
  if Config.bodyMax ≤ bs.length then p.discard .hunt .formatError
  else ({ p with filling := some (bs ++ [b]), rx := .body }, none)

/-- The first byte after a delimiter starts a body: a buffer is claimed, or the frame is an overrun (R143). -/
def LinePort.startBody (p : LinePort) (b : Byte) : LinePort × Option Report :=
  if Config.receiveBuffers ≤ p.held.length then ({ p with rx := .hunt }, some .overrun)
  else if b = escapeByte then ({ p with filling := some [], rx := .escape }, none)
  else ({ p with filling := some [b], rx := .body }, none)

/-- A delimiter ends a body (R144): a good frame is held behind those held already (R146). -/
def LinePort.endBody (p : LinePort) : LinePort × Option Report :=
  match checkBody (p.filling.getD []) with
  | .good f => ({ p with filling := none, held := p.held ++ [f], rx := .gap }, some .good)
  | .crcError => p.discard .gap .crcError
  | .formatError => p.discard .gap .formatError

/-- A byte taken in ESCAPE (R142). -/
def LinePort.unescape (p : LinePort) (b : Byte) : LinePort × Option Report :=
  if b = 0x85#8 then p.store delimiter
  else if b = 0x7A#8 then p.store escapeByte
  else if b = delimiter then p.discard .gap .formatError
  else p.discard .hunt .formatError

/-- A character taken by the receiver according to its state (R142). A disabled port does not sample its input (R137). -/
def LinePort.receive (p : LinePort) (c : LineChar) : LinePort × Option Report :=
  match p.rx, c with
  | .stopped, _ => (p, none)
  | .hunt, .byte b => (if b = delimiter then { p with rx := .gap } else p, none)
  | .hunt, .framingError => (p, none)
  | .gap, .byte b => if b = delimiter then (p, none) else p.startBody b
  | .gap, .framingError => (p, none)
  | .body, .byte b =>
    if b = delimiter then p.endBody
    else if b = escapeByte then ({ p with rx := .escape }, none)
    else p.store b
  | .body, .framingError => p.discard .hunt .crcError
  | .escape, .byte b => p.unescape b
  | .escape, .framingError => p.discard .hunt .crcError

/-- A character received on line port `l`, with the counter its report raises. -/
def State.receiveChar (s : State) (l : LinkId) (c : LineChar) : State :=
  let r := (s.line l).receive c
  let s := s.setLine l r.1
  match r.2 with
  | some rep => s.count l rep.bump
  | none => s

/-- Levels sampled on line port `l` (R138): the characters found in them are taken one after another. A disabled port does not sample. -/
def State.receiveLevels (s : State) (l : LinkId) (levels : List Bool) : State :=
  let p := s.line l
  if !p.enabled then s else
  let r := (Sampler.start p.rxWait).read levels
  r.2.foldl (fun s c => s.receiveChar l c) (s.setLine l { p with rxWait := r.1 == .waiting })

/-- A whole character received after the marking level. -/
def State.receiveByte (s : State) (l : LinkId) (b : Byte) : State := s.receiveLevels l (true :: charLevels b)

/-- Characters received one after another. -/
def LinePort.receiveAll (p : LinePort) (cs : List Byte) : LinePort := cs.foldl (fun p b => (p.receive (.byte b)).1) p

end Sys2Proof.Machine
end

