-- ==== Sys2Proof/Machine/LineEvents.lean ====
section
/-! DEFINITION. The events of a line port: characters received (R142 to R146), the end of a transmission (R140, R141), line-ready
(R43, R147). -/

namespace Sys2Proof.Machine

/-! ## Characters: each row hands the receiver the levels of one character, which R142 takes in every receiver state (log entry 16) -/

/-- FRAME_BODY_START: the first byte after a delimiter (R143). -/
def execFrameBodyStart (l : LinkId) (b : Byte) (s : State) : StepOutcome := .next (s.receiveByte l b)

/-- FRAME_END: the closing delimiter of a body (R144). -/
def execFrameEnd (l : LinkId) (s : State) : StepOutcome := .next (s.receiveByte l delimiter)

/-- HUNT_DELIMITER: a delimiter received in HUNT (R142). -/
def execHuntDelimiter (l : LinkId) (s : State) : StepOutcome := .next (s.receiveByte l delimiter)

/-- BODY_CHARACTER: a character received in BODY or ESCAPE, by its levels (R138, R142). -/
def execBodyCharacter (l : LinkId) (levels : List Bool) (s : State) : StepOutcome := .next (s.receiveLevels l levels)

/-! ## The transmitter -/

/-- The transmit buffer becomes free (R140, R141). -/
def State.freeTransmitter (s : State) (l : LinkId) : State := s.setLine l { s.line l with tx := none }

/-- TRANSMIT_COMPLETE: the stop bit of the closing delimiter has been sent, and with it every character of the frame; the frame is
counted (R140, R49; log entry 10). -/
def execTransmitComplete (l : LinkId) (s : State) : StepOutcome :=
  match (s.line l).tx with
  | some t => if t.cut.isSome then .refused .nothingToComplete
    else .next ((s.freeTransmitter l).count l Counters.bumpSent).settle
  | none => .refused .nothingToComplete

/-- TRUNCATION_COMPLETE: the truncation of a sequenced frame has ended; the frame is not counted (R141). -/
def execTruncationComplete (l : LinkId) (s : State) : StepOutcome :=
  match (s.line l).tx with
  | some t => if t.cut.isSome then .next (s.freeTransmitter l).settle else .refused .nothingToComplete
  | none => .refused .nothingToComplete

/-! ## Line-ready -/

/-- The engine takes a deassertion of line-ready, by the state of the link (R43). -/
def State.lineLost (s : State) (l : LinkId) : State :=
  match (s.link l).state with
  | .starting => s.enterFailed l .lineLost
  | .up => (s.teardown l .lineLost).enterFailed l .lineLost
  | .stopping => s.completeStop l .lineLost
  | .down | .listening | .failed => s

/-- LRDYn is at a level, which an enabled port samples and keeps as its line-ready state (R147, R137). -/
def LinePort.sampled (p : LinePort) (asserted : Bool) : LinePort :=
  { p with lrdy := asserted, lineReady := if p.enabled then some asserted else p.lineReady }

/-- A sample is kept as the line-ready state. -/
def State.keepSample (s : State) (l : LinkId) (asserted : Bool) : State := s.setLine l ((s.line l).sampled asserted)

/-- LINE_READY_DEASSERTED: a sample finds LRDYn deasserted (R147; log entry 15): reported when the state was asserted. A disabled port
does not sample. -/
def execLineReadyDeasserted (l : LinkId) (s : State) : StepOutcome :=
  let p := s.line l
  if p.enabled ∧ p.lineReady = some true then .next ((s.keepSample l false).lineLost l).settle
  else .next (s.keepSample l false)

/-- LINE_READY_ASSERTED: a sample finds LRDYn asserted (R147; log entry 15); nothing is reported to the engine. -/
def execLineReadyAsserted (l : LinkId) (s : State) : StepOutcome := .next (s.keepSample l true)

end Sys2Proof.Machine
end

