-- ==== Sys2Proof/Machine/LinkCommands.lean ====
section
/-! DEFINITION. The commands of a link (sections 2.2 to 2.4): LINK-START, LINK-STOP, LINK-CLAIM, LINK-QUERY. -/

namespace Sys2Proof.Machine

/-- The line port at a LINK-START (R30, R137): enabled if it was disabled, with its receiver in HUNT and its transmitter sending idle fill,
and handed the rate code, which a character in progress does not take (R138). -/
def LinePort.start (p : LinePort) (rate : Nat) : LinePort :=
  if p.enabled then { p with rate := some rate }
  else { enabled := true, rate := some rate, charRate := some rate, rx := .hunt, lrdy := p.lrdy }

/-- The link record after a LINK-START is taken from slot `p` (R30). -/
def Link.started (k : Link) (p : Slot) (q : Params) : Link :=
  let k1 := { k with params := some q, ownEpoch := nextEpoch k.ownEpoch, controller := some p }
  match q.mode with
  | .active => k1.enterStarting
  | .passive => { k1.stopTimers with state := .listening, retry := 0 }

/-- LINK-START is taken on link `l` (R30). -/
def State.startLink (s : State) (p : Slot) (l : LinkId) (q : Params) : State :=
  (s.setLink l ((s.link l).started p q)).setLine l ((s.line l).start q.rateCode)

/-- The command part of LINK-START (R28, R30). -/
def State.doLinkStart (p : Slot) (body : List Byte) : Action := fun _ _ s =>
  if startBadArg body then (s, refusedReply .badArg) else
  match linkOf (bodyAt body 0) with
  | none => (s, refusedReply .badArg)
  | some l =>
    let k := s.link l
    let taken := (s.startLink p l (startParams body), okReply [nextEpoch k.ownEpoch])
    match k.state with
    | .listening | .starting | .up | .stopping => (s, refusedReply .badState)
    | .down => taken
    | .failed => if k.controller = none ∨ k.controller = some p then taken else (s, refusedReply .notController)

/-- LINK-START, code H'10 (R28, R30). -/
def execLinkStart (p : Slot) (body : List Byte) (s : State) : StepOutcome :=
  settled (s.request p (· == 0x10#8) body (State.doLinkStart p body))

/-- The effect of a LINK-STOP that is taken, by the state of the link (R31). -/
def State.stopLink (s : State) (l : LinkId) : State :=
  match (s.link l).state with
  | .listening | .failed => s.enterDown l .stopped
  | .starting =>
    let k := s.link l
    (s.setLink l { k with owedLink := { k.owedLink with opn := false } }).enterDown l .stopped
  | .up =>
    let s := s.teardown l .stopped
    let k := s.link l
    s.setLink l { k.dropSequence.startResp with state := .stopping, retry := 0, owedLink := { k.owedLink with close := true } }
  | .down | .stopping => s

/-- The command part of LINK-STOP (R31). -/
def State.doLinkStop (p : Slot) (body : List Byte) : Action := fun _ _ s =>
  match linkOf (bodyAt body 0) with
  | none => (s, refusedReply .badArg)
  | some l =>
    let k := s.link l
    if k.state = .down ∨ k.state = .stopping then (s, refusedReply .badState)
    else if k.controller ≠ some p then (s, refusedReply .notController)
    else (s.stopLink l, okReply [])

/-- LINK-STOP, code H'11 (R31). -/
def execLinkStop (p : Slot) (body : List Byte) (s : State) : StepOutcome :=
  settled (s.request p (· == 0x11#8) body (State.doLinkStop p body))

/-- The command part of LINK-CLAIM (R32). -/
def State.doLinkClaim (p : Slot) (body : List Byte) : Action := fun _ _ s =>
  match linkOf (bodyAt body 0) with
  | none => (s, refusedReply .badArg)
  | some l =>
    let k := s.link l
    if k.state = .down then (s, refusedReply .badState)
    else match k.controller with
      | none => (s.setLink l { k with controller := some p }, okReply [])
      | some q => if q = p then (s, okReply []) else (s, refusedReply .notController)

/-- LINK-CLAIM, code H'12 (R32). -/
def execLinkClaim (p : Slot) (body : List Byte) (s : State) : StepOutcome :=
  s.request p (· == 0x12#8) body (State.doLinkClaim p body)

/-- The command part of LINK-QUERY (R33). -/
def State.doLinkQuery (body : List Byte) : Action := fun _ _ s =>
  match linkOf (bodyAt body 0) with
  | none => (s, refusedReply .badArg)
  | some l => (s, okReply ((s.link l).queryBody l))

/-- LINK-QUERY, code H'13 (R33). -/
def execLinkQuery (p : Slot) (body : List Byte) (s : State) : StepOutcome :=
  s.request p (· == 0x13#8) body (State.doLinkQuery body)

end Sys2Proof.Machine
end

