-- ==== Sys2Proof/Machine/MessageCommands.lean ====
section
/-! DEFINITION. The commands of the message path, SEND and RECV (chapter 6), and POOL-QUERY (R103). -/

namespace Sys2Proof.Machine

/-- The payload length of a SEND, its declared body length minus 3 (R108). -/
def payloadLength (h : ReqHeader) : Nat := h.len.toNat - 3

/-- The result of the staging claim at the check of R109: ok when a message is staged. A request that passes every other check had
its claim made at its header; where no claim stands the model answers NO-BUFFER (log entry 19). -/
def Staging.result : Staging → Result
  | .granted _ => .ok
  | .refused r => r
  | .none => .noBuffer

/-- The checks of a SEND after the common ones, in the order of R109. -/
def State.sendCheck (s : State) (p : Slot) (h : ReqHeader) (st : Staging) (body : List Byte) : Except Result ChanId :=
  if 31 < bodyAt body 0 ∨ 1 < bodyAt body 2 ∨ payloadLength h = 0 ∨ Config.maxMessage < payloadLength h then .error .badArg
  else match s.owned p (bodyAt body 0) with
    | .error r => .error r
    | .ok i =>
      let c := s.chan i
      if c.state ≠ .opened then .error .badState
      else if c.peerWindow < blocksOf (payloadLength h) then .error .tooLarge
      else if Config.sendQueueMax ≤ c.sendQ.length then .error .queueFull
      else if st.result ≠ .ok then .error st.result
      else .ok i

/-- The staged message with the channel, tag and notify flag of the body (R106, R109). -/
def sendMessage (p : Slot) (i : ChanId) (body : List Byte) : TxMsg :=
  { slot := p, channel := i, tag := body.getD 1 0#8, notify := bodyAt body 2 == 1, payload := body.drop 3 }

/-- A message joins the tail of a record's send queue (R109). -/
def State.queueMessage (s : State) (i : ChanId) (m : TxMsg) : State :=
  let c := s.chan i
  s.setChan i { c with sendQ := c.sendQ ++ [m] }

/-- The command part of SEND (R109): refused, its staged message is freed; taken, the message is queued. -/
def State.doSend (p : Slot) (body : List Byte) : Action := fun h st s =>
  match s.sendCheck p h st body with
  | .error r => (s.freeStaged p st, refusedReply r)
  | .ok i => (s.queueMessage i (sendMessage p i body), okReply [byteOf ((s.chan i).sendQ.length + 1)])

/-- SEND, code H'30 (R108 to R110). -/
def execSend (p : Slot) (body : List Byte) (s : State) : StepOutcome :=
  settled (s.request p (· == 0x30#8) body (State.doSend p body))

/-- The head message leaves the receive queue, and rx held falls by its blocks (R117). -/
def State.popReceived (s : State) (i : ChanId) (m : RxMsg) : State :=
  let c := s.chan i
  s.setChan i { c with recvQ := c.recvQ.tail, rxHeld := c.rxHeld - m.blocks }

/-- The body bytes of a RECV response before the payload (R117). -/
def recvBody (i : ChanId) (remaining : Nat) (m : RxMsg) : List Byte :=
  [byteOf i.val, byteOf remaining] ++ be16 m.payload.length

/-- The command part of RECV (R117): a grant is computed for an OPEN record alone. -/
def State.doRecv (p : Slot) (body : List Byte) : Action := fun _ _ s =>
  match s.owned p (bodyAt body 0) with
  | .error r => (s, refusedReply r)
  | .ok i =>
    let c := s.chan i
    if c.state = .aborting then (s, refusedReply .badState)
    else match c.recvQ with
      | [] => (s, refusedReply .empty)
      | m :: rest =>
        ((s.popReceived i m).grant i, { result := .ok, body := recvBody i rest.length m, msg := some m })

/-- RECV, code H'31 (R117). -/
def execRecv (p : Slot) (body : List Byte) (s : State) : StepOutcome :=
  settled (s.request p (· == 0x31#8) body (State.doRecv p body))

/-- The command part of POOL-QUERY (R103). -/
def State.doPoolQuery : Action := fun _ _ s => (s, okReply s.pool.queryBody)

/-- POOL-QUERY, code H'40 (R103). -/
def execPoolQuery (p : Slot) (body : List Byte) (s : State) : StepOutcome :=
  s.request p (· == 0x40#8) body State.doPoolQuery

end Sys2Proof.Machine
end

