-- ==== Sys2Proof/Machine/Resets.lean ====
section
/-! DEFINITION. Host port reset (R160, R161) and device reset (R169). -/

namespace Sys2Proof.Machine

/-- The transaction state of a port that takes up its pins outside a transaction: IGNORE while chip select is low (R161, R169). -/
def restingTxn (csLow : Bool) : Txn := if csLow then .ignore else .idle

/-- The staging of the transaction in progress. -/
def Txn.staging : Txn → Staging
  | .writeBody _ st => st
  | .idle | .code _ | .writeHeader | .readResponse _ | .readEvent _ _ | .statusTail _ | .ignore => .none

/-- The messages held in a response queue. -/
def heldMsgs (rs : List Response) : List RxMsg := rs.filterMap Response.msg

/-- HRSTn is asserted, in whatever session and transaction state the port is (R160). -/
def State.resetPort (s : State) (p : Slot) : State :=
  let s := s.freeStaged p (s.port p).txn.staging
  let s := if (s.port p).session = .attached then s.endSession p else s
  let s := (s.freeRxMsgs (heldMsgs (s.port p).responses)).serve
  s.updPort p fun x =>
    { x with session := .reset, responses := [], events := [], drop := false, txn := restingTxn x.csLow, hrstLow := true, hso := [] }

/-- HOST_PORT_RESET: assertion of HRSTn (R160). While RESET is low every block is held (R169), and only the level of the pin
changes. -/
def execHostPortReset (p : Slot) (s : State) : StepOutcome :=
  if s.resetLow then .next (s.updPort p fun x => { x with hrstLow := true }) else .next (s.resetPort p).settle

/-- The port after HRSTn is deasserted (R161). -/
def HostPort.released (x : HostPort) : HostPort :=
  { x with session := .detached, responses := [], events := [], drop := false, txn := restingTxn x.csLow, hrstLow := false }

/-- HOST_PORT_RESET_RELEASE: deassertion of HRSTn (R161). -/
def execHostPortResetRelease (p : Slot) (s : State) : StepOutcome :=
  if !(s.port p).hrstLow then .refused .levelAlready
  else if s.resetLow then .next (s.updPort p fun x => { x with hrstLow := false })
  else .next (s.updPort p HostPort.released)

/-- A port held by device reset: its state after device reset, with the levels of its pins (R149, R169). -/
def HostPort.held (x : HostPort) : HostPort := { csLow := x.csLow, hrstLow := x.hrstLow }

/-- A line port held by device reset, with the level of its pin (R137). -/
def LinePort.deviceHeld (x : LinePort) : LinePort := { lrdy := x.lrdy }

/-- DEVICE_RESET: assertion of RESET (R169). Every block goes to its state after device reset; the levels of the input pins, the
waiting commands and the counter of free values are not the part's (log entry 21). -/
def execDeviceReset (s : State) : StepOutcome :=
  .next { State.reset with
    resetLow := true, ports := s.ports.map HostPort.held, lines := s.lines.map LinePort.deviceHeld,
    freeCount := s.freeCount, pending := s.pending }

/-- A port as RESET is deasserted, by the levels of HRSTn and HCSn (R169). -/
def HostPort.afterDeviceReset (x : HostPort) : HostPort :=
  { x with session := if x.hrstLow then .reset else .detached, txn := restingTxn x.csLow }

/-- DEVICE_RESET_RELEASE: deassertion of RESET (R169). -/
def execDeviceResetRelease (s : State) : StepOutcome :=
  if s.resetLow then .next { s with resetLow := false, ports := s.ports.map HostPort.afterDeviceReset }
  else .refused .levelAlready

end Sys2Proof.Machine
end

