-- ==== Sys2Proof/Machine/SessionCommands.lean ====
section
/-! DEFINITION. ATTACH, DETACH and the requests with an unrecognised command code (R155, R158, R159). -/

namespace Sys2Proof.Machine

/-- The command part of ATTACH (R158). -/
def State.doAttach (p : Slot) : Action := fun _ _ s =>
  if (s.port p).session = .attached then (s, refusedReply .badState)
  else (s.updPort p fun x => { x with session := .attached }, okReply (attachBody p))

/-- ATTACH, code H'01 (R158). -/
def execAttach (p : Slot) (body : List Byte) (s : State) : StepOutcome :=
  s.request p (· == 0x01#8) body (State.doAttach p)

/-- The command part of DETACH (R159): the response is posted after the session has ended. -/
def State.doDetach (p : Slot) : Action := fun _ _ s => (s.endSession p, okReply [])

/-- DETACH, code H'02 (R159). -/
def execDetach (p : Slot) (body : List Byte) (s : State) : StepOutcome :=
  settled (s.request p (· == 0x02#8) body (State.doDetach p))

/-- A request with an unrecognised command code: the common checks refuse it LENGTH or UNKNOWN (R155). -/
def execUnknownCommand (p : Slot) (body : List Byte) (s : State) : StepOutcome :=
  s.request p (fun c => !knownCode c) body fun _ _ s => (s, refusedReply .unknown)

end Sys2Proof.Machine
end

