-- ==== Sys2Proof/Machine/Timers.lean ====
section
/-! DEFINITION. The expiries of the link timers (R36, R42, R67, R68, R71) and the tick of the time base (R26, R138, R147). -/

namespace Sys2Proof.Machine

/-- A running timer is due when the tick has brought its remaining time to 0 (R26). -/
def due (t : Option Nat) : Bool := t == some 0

/-- T_ACK_EXPIRY (R71). An expiry whose timer has been stopped or restarted meanwhile does not occur (R35, R72; log entry 4). -/
def execTAckExpiry (l : LinkId) (s : State) : StepOutcome :=
  let k := s.link l
  if due k.tAck then
    .next (s.setLink l { k with tAck := none, owedSup := { k.owedSup with ack := true } }).settle
  else .next s

/-- T_resp expires with retries left: the retry count rises and T_resp restarts (R36, R42, R67). -/
def Link.retried (k : Link) : Link := { k.startResp with retry := k.retry + 1 }

/-- POLL is added to the owed supervisory set, and poll outstanding is set (R67, R68). -/
def Link.owePoll (k : Link) : Link := { k with pollOutstanding := true, owedSup := { k.owedSup with poll := true } }

/-- The effect of an expiry of T_resp, by the state of the link (R36, R42, R67). -/
def State.respExpired (s : State) (l : LinkId) : State :=
  let k := s.link l
  let spent := k.retry = k.par.nRetry
  match k.state with
  | .starting =>
    if spent then s.enterFailed l .retryExhausted
    else s.setLink l { k.retried with owedLink := { k.owedLink with opn := true } }
  | .stopping =>
    if spent then s.completeStop l .stopped
    else s.setLink l { k.retried with owedLink := { k.owedLink with close := true } }
  | .up =>
    if spent then (s.teardown l .retryExhausted).enterFailed l .retryExhausted
    else s.setLink l k.retried.owePoll
  | .down | .listening | .failed => s

/-- T_RESP_EXPIRY (R36, R42, R67). -/
def execTRespExpiry (l : LinkId) (s : State) : StepOutcome :=
  if due (s.link l).tResp then .next (s.respExpired l).settle else .next s

/-- T_IDLE_EXPIRY (R68). -/
def execTIdleExpiry (l : LinkId) (s : State) : StepOutcome :=
  let k := s.link l
  if due k.tIdle then .next (s.setLink l { k.owePoll.startResp with tIdle := none }).settle else .next s

/-! ## The time base -/

/-- A running timer loses 1 ms of remaining time (R26). -/
def tickTimer (t : Option Nat) : Option Nat := t.map (· - 1)

def Link.tick (k : Link) : Link :=
  { k with tAck := tickTimer k.tAck, tResp := tickTimer k.tResp, tIdle := tickTimer k.tIdle }

/-- The expiries that a tick has caused on a link. -/
def Link.dueClaims (k : Link) (l : LinkId) : List Instr :=
  (if due k.tAck then [.tAckExpiry l] else []) ++ (if due k.tResp then [.tRespExpiry l] else [])
    ++ (if due k.tIdle then [.tIdleExpiry l] else [])

/-- A claim placed among others at a position that the free value gives. -/
def insertClaim (pos : Nat) (c : Instr) : List Instr → List Instr
  | [] => [c]
  | d :: rest => if pos % (rest.length + 2) = 0 then c :: d :: rest else d :: insertClaim (pos - 1) c rest

/-- Claims that fall together, in an order that only the free values tell (R72; log entry 3). -/
def orderClaims : Nat → List Instr → List Instr
  | _, [] => []
  | n, c :: rest => insertClaim (Config.claimOrder n) c (orderClaims (n + 1) rest)

/-- What a tick does to a line port: an enabled port goes on sending for 1 ms (R138, R140). -/
def LinePort.tick (p : LinePort) : LinePort := if p.enabled then p.sendOn else p

/-- The claims that a tick has caused on an enabled line port: the end of the transmission or truncation of a frame whose last character
has been sent (R140, R141), and the sample of LRDYn, when it changes the line-ready state (R147). -/
def LinePort.dueClaims (p : LinePort) (l : LinkId) : List Instr :=
  if !p.enabled then [] else
  (match p.tx with
    | some t => if t.ended then [if t.cut.isSome then .truncationComplete l else .transmitComplete l] else []
    | none => [])
  ++ (if p.lineReady = some p.lrdy then [] else [if p.lrdy then .lineReadyAsserted l else .lineReadyDeasserted l])

/-- One tick of the 1 ms time base (R26): every running timer is counted down, every enabled line port sends on and samples LRDYn, and
what this causes becomes waiting claims. The time base does not tick while RESET is low (R169). -/
def State.tick (s : State) : State :=
  if s.resetLow then s else
  let s1 := { s with links := s.links.map Link.tick, lines := s.lines.map LinePort.tick }
  let of (l : LinkId) : List Instr := (s1.link l).dueClaims l ++ (s1.line l).dueClaims l
  let cs := of 0 ++ of 1
  { s1 with pending := s1.pending ++ orderClaims s1.freeCount cs, freeCount := s1.freeCount + cs.length }

end Sys2Proof.Machine
end

