-- ==== Sys2Proof/Machine/Transactions.lean ====
section
/-! DEFINITION. The transactions of a host port besides the requests: chip select, the code byte, the request header, the STATUS
transaction and the reads (R150 to R153, R157, R163). -/

namespace Sys2Proof.Machine

/-- Chip select falls (R150, R151): the value of the status byte is fixed. In RESET an ignored transaction begins (R161); while the
RESET pin is low only the level of the pin changes (R169). -/
def execChipSelectFalls (p : Slot) (s : State) : StepOutcome :=
  let x := s.port p
  if x.csLow then .refused .levelAlready
  else if s.resetLow then .next (s.setPort p { x with csLow := true })
  else if x.session = .reset then .next (s.setPort p { x with csLow := true, txn := .ignore, hso := [] })
  else .next (s.setPort p { x with csLow := true, txn := .code x.statusByte, hso := [] })

/-- A command that completes bytes inside a transaction (log entries 5 and 17): clock edges while chip select is high are not taken
(R150), nor any while the port takes no transaction; in IGNORE the bytes are ignored and H'00 is returned. -/
def State.midTransaction (s : State) (p : Slot) (bytes : Nat) (act : Txn → Option State) : StepOutcome :=
  let x := s.port p
  if !x.csLow || !s.portLive p then .next s
  else if x.txn = .ignore then .next (s.setPort p { x with hso := x.hso ++ zeros bytes })
  else match act x.txn with
    | some s' => .next s'
    | none => .refused .otherTransaction

/-- The transaction state that a code byte leads to (R150): the head response or event is chosen (R157, R163), and the event count
of a STATUS transaction is fixed (R152). -/
def HostPort.afterCode (x : HostPort) (code : Byte) : Txn :=
  if code = 0x01#8 then .statusTail x.events.length
  else if code = 0x02#8 then .writeHeader
  else if code = 0x03#8 then .readResponse x.responses.head?
  else if code = 0x04#8 then .readEvent x.events.head? 0
  else .ignore

/-- The code byte is complete (R150, R151): the status byte has been returned, and a status byte carrying DROP clears DROP. -/
def execTransactionCode (p : Slot) (code : Byte) (s : State) : StepOutcome :=
  s.midTransaction p 1 fun t => match t with
    | .code status =>
      let x := s.port p
      some (s.setPort p { x with
        txn := x.afterCode code, drop := x.drop && !statusDrop status, hso := x.hso ++ [status] })
    | _ => none

/-- The staging claim of a SEND at its header (R92, R108). A declared length outside 4..1027 makes no claim. -/
def State.stagingClaim (s : State) (p : Slot) (len : Nat) : State × Staging :=
  if len < 4 ∨ 1027 < len then (s, .none)
  else
    let b := blocksOf (len - 3)
    match s.pool.stagingRefusal p b with
    | some r => (s, .refused r)
    | none => (s.setPool (s.pool.stage p b), .granted (len - 3))

/-- The fourth header byte is complete (R153); the last two hold the body length, high byte first (R166). The request is dropped when 8
responses wait; otherwise the port enters WRITE-BODY, and a SEND on an attached port makes its staging claim. -/
def execWriteRequestHeader (p : Slot) (tag code : Byte) (lenBytes : Byte × Byte) (s : State) : StepOutcome :=
  let len := BitVec.ofNat 16 (fromBe16 lenBytes.1 lenBytes.2)
  s.midTransaction p 4 fun t => match t with
    | .writeHeader =>
      let x := s.port p
      if Config.responseMax ≤ x.responses.length then
        some (s.setPort p { x with drop := true, txn := .ignore, hso := x.hso ++ zeros 4 })
      else
        let claim := if code = 0x30#8 ∧ x.session = .attached then s.stagingClaim p len.toNat else (s, .none)
        some (claim.1.setPort p { x with txn := .writeBody { tag, code, len } claim.2, hso := x.hso ++ zeros 4 })
    | _ => none

/-- The end of a STATUS transaction (R152): the byte after the code byte is the event count. -/
def execStatusTransaction (p : Slot) (clocked : Nat) (s : State) : StepOutcome :=
  s.endTransaction p clocked fun t => match t with
    | .statusTail n => some (s.rise p (firstOf clocked [byteOf n]))
    | _ => none

/-- The response is removed by a complete read, and a message it carries is freed (R157, R94). -/
def State.removeResponse (s : State) (p : Slot) (r : Response) : State :=
  let s := s.updPort p fun x => { x with responses := x.responses.tail }
  match r.msg with
  | some m => (s.freeRxMsgs [m]).serve
  | none => s

/-- The end of a READ-RESPONSE (R157): complete when every byte of header and body has been clocked. -/
def execReadResponse (p : Slot) (clocked : Nat) (s : State) : StepOutcome :=
  settled (s.endTransaction p clocked fun t => match t with
    | .readResponse none => some (s.rise p (zeros clocked))
    | .readResponse (some r) =>
      let s' := if r.bytes.length ≤ clocked then s.removeResponse p r else s
      some (s'.rise p (firstOf clocked r.bytes))
    | _ => none)

/-- The end of a READ-EVENT (R163): complete when all six bytes have been clocked. -/
def execReadEvent (p : Slot) (clocked : Nat) (s : State) : StepOutcome :=
  s.endTransaction p clocked fun t => match t with
    | .readEvent none _ => some (s.rise p (zeros clocked))
    | .readEvent (some e) n =>
      let s' := if 6 ≤ clocked then s.updPort p fun x => { x with events := eventsAfterRead e n x.events } else s
      some (s'.rise p (firstOf clocked e.bytes))
    | _ => none

/-- The rise of chip select in IGNORE, CODE or WRITE-HEADER ends the transaction with nothing taken (R150). In CODE no byte is
complete; in WRITE-HEADER fewer than four are. -/
def execIgnoredTransactionEnd (p : Slot) (clocked : Nat) (s : State) : StepOutcome :=
  s.endTransaction p clocked fun t => match t with
    | .code _ => some (s.rise p [])
    | .writeHeader => some (s.rise p (zeros (min clocked 3)))
    | _ => none

end Sys2Proof.Machine
end

