-- ==== Sys2Proof/Machine/Dispatch.lean ====
section
/-! DEFINITION. The effect of each command on everything but the queue: one arm per row of the table. -/

namespace Sys2Proof.Machine

def exec (i : Instr) (s : State) : Host.Outcome State Fault Refusal :=
  match i with
  | .attach p body => Sys2Proof.Machine.execAttach p body s
  | .detach p body => Sys2Proof.Machine.execDetach p body s
  | .linkStart p body => Sys2Proof.Machine.execLinkStart p body s
  | .linkStop p body => Sys2Proof.Machine.execLinkStop p body s
  | .linkClaim p body => Sys2Proof.Machine.execLinkClaim p body s
  | .linkQuery p body => Sys2Proof.Machine.execLinkQuery p body s
  | .chListen p body => Sys2Proof.Machine.execChListen p body s
  | .chOpen p body => Sys2Proof.Machine.execChOpen p body s
  | .chClose p body => Sys2Proof.Machine.execChClose p body s
  | .chRelease p body => Sys2Proof.Machine.execChRelease p body s
  | .chQuery p body => Sys2Proof.Machine.execChQuery p body s
  | .send p body => Sys2Proof.Machine.execSend p body s
  | .recv p body => Sys2Proof.Machine.execRecv p body s
  | .poolQuery p body => Sys2Proof.Machine.execPoolQuery p body s
  | .unknownCommand p body => Sys2Proof.Machine.execUnknownCommand p body s
  | .transactionCode p code => Sys2Proof.Machine.execTransactionCode p code s
  | .statusTransaction p clocked => Sys2Proof.Machine.execStatusTransaction p clocked s
  | .writeRequestHeader p tag code len => Sys2Proof.Machine.execWriteRequestHeader p tag code len s
  | .readResponse p clocked => Sys2Proof.Machine.execReadResponse p clocked s
  | .readEvent p clocked => Sys2Proof.Machine.execReadEvent p clocked s
  | .hostPortReset p => Sys2Proof.Machine.execHostPortReset p s
  | .hostPortResetRelease p => Sys2Proof.Machine.execHostPortResetRelease p s
  | .deviceReset => Sys2Proof.Machine.execDeviceReset s
  | .deviceResetRelease => Sys2Proof.Machine.execDeviceResetRelease s
  | .lineReadyDeasserted l => Sys2Proof.Machine.execLineReadyDeasserted l s
  | .frameBodyStart l b => Sys2Proof.Machine.execFrameBodyStart l b s
  | .frameEnd l => Sys2Proof.Machine.execFrameEnd l s
  | .transmitComplete l => Sys2Proof.Machine.execTransmitComplete l s
  | .truncationComplete l => Sys2Proof.Machine.execTruncationComplete l s
  | .linkOpen l => Sys2Proof.Machine.execLinkOpen l s
  | .linkAccept l => Sys2Proof.Machine.execLinkAccept l s
  | .linkClose l => Sys2Proof.Machine.execLinkClose l s
  | .linkClosed l => Sys2Proof.Machine.execLinkClosed l s
  | .status l => Sys2Proof.Machine.execStatus l s
  | .resend l => Sys2Proof.Machine.execResend l s
  | .data l => Sys2Proof.Machine.execData l s
  | .chanOpen l => Sys2Proof.Machine.execChanOpen l s
  | .chanAccept l => Sys2Proof.Machine.execChanAccept l s
  | .chanRefuse l => Sys2Proof.Machine.execChanRefuse l s
  | .chanClose l => Sys2Proof.Machine.execChanClose l s
  | .chanClosed l => Sys2Proof.Machine.execChanClosed l s
  | .chanCredit l => Sys2Proof.Machine.execChanCredit l s
  | .tAckExpiry l => Sys2Proof.Machine.execTAckExpiry l s
  | .tRespExpiry l => Sys2Proof.Machine.execTRespExpiry l s
  | .tIdleExpiry l => Sys2Proof.Machine.execTIdleExpiry l s
  | .chipSelectFalls p => Sys2Proof.Machine.execChipSelectFalls p s
  | .ignoredTransactionEnd p clocked => Sys2Proof.Machine.execIgnoredTransactionEnd p clocked s
  | .huntDelimiter l => Sys2Proof.Machine.execHuntDelimiter l s
  | .bodyCharacter l levels => Sys2Proof.Machine.execBodyCharacter l levels s
  | .lineReadyAsserted l => Sys2Proof.Machine.execLineReadyAsserted l s

end Sys2Proof.Machine
end

