-- ==== Sys2Proof/Safety.lean ====
section
/-! DEFINITION. What counts as a safe state of the LK340, and the terms in which statements about its steps are made: what a step
keeps, what a request or a frame meets, and the laws of each block that hold in every reachable state. -/

namespace Sys2Proof.Machine

/-! ## What a step keeps -/

/-- The parts of the state that a step may change. -/
structure Touched where
  port : Slot → Prop := fun _ => False
  chan : ChanId → Prop := fun _ => False
  link : LinkId → Prop := fun _ => False
  line : LinkId → Prop := fun _ => False
  pool : Prop := False

/-- Everything outside the named parts is in `u` as it is in `s`. -/
structure Keeps (t : Touched) (s u : State) : Prop where
  ports : ∀ p, ¬ t.port p → u.port p = s.port p
  chans : ∀ i, ¬ t.chan i → u.chan i = s.chan i
  links : ∀ l, ¬ t.link l → u.link l = s.link l
  lines : ∀ l, ¬ t.line l → u.line l = s.line l
  pool : ¬ t.pool → u.pool = s.pool
  resetLow : u.resetLow = s.resetLow
  freeCount : u.freeCount = s.freeCount
  pending : u.pending = s.pending

/-- A record is as it was but for new grants, which only an OPEN record takes: rx granted, and the CREDIT then owed unless CLOSE is
(R100, R22). -/
def Chan.grantedFrom (c old : Chan) : Prop :=
  ∃ g : Nat, (g ≠ 0 → old.state = .opened) ∧ c = if g = 0 then old else
    { old with
      rxGranted := old.rxGranted + BitVec.ofNat 8 g
      owed := { old.owed with credit := old.owed.credit || old.owed.close.isNone } }

/-- An OPEN record after a grant of `g` blocks (R100). -/
def Chan.granted (c : Chan) (g : Nat) : Chan :=
  if g = 0 then c else { c with rxGranted := c.rxGranted + BitVec.ofNat 8 g, owed := { c.owed with credit := true } }

/-- From `s` to `u` the credit-owed list `q` of OPEN records has been served from its head, as often as blocks became free-unreserved
(R100, R101): the records that have left it have the whole of their wants, the record at the head of what is left has at most a part of
its want, the records behind it have nothing, and records wait only while no block is free-unreserved. -/
structure State.ServedInTurn (s u : State) (q : List ChanId) : Prop where
  met : ∃ met, q = met ++ u.pool.creditOwed ∧ ∀ i ∈ met, u.chan i = (s.chan i).granted (s.chan i).openWant
  head : ∀ i, u.pool.creditOwed.head? = some i → ∃ g, (g = 0 ∨ g < (s.chan i).openWant) ∧ u.chan i = (s.chan i).granted g
  behind : ∀ i ∈ u.pool.creditOwed.tail, u.chan i = s.chan i
  done : u.pool.creditOwed = [] ∨ u.pool.free - u.pool.reserved = 0

/-- A link record is as it was but for its control-ready list. -/
def Link.readyFrom (k old : Link) : Prop := k = { old with ready := k.ready }

/-! ## Host requests -/

/-- Port `p` takes transactions, its chip select is low, and its transaction is the write of a request whose header is `h`. -/
structure State.Writing (s : State) (p : Slot) (h : ReqHeader) (st : Staging) : Prop where
  live : s.portLive p = true
  low : (s.port p).csLow = true
  txn : (s.port p).txn = .writeBody h st

/-- The request being written passes the common checks (R155) for its command code, on an attached port, as far as they do not
concern the lengths that the command accepts. -/
structure State.Requests (s : State) (p : Slot) (code : Byte) (body : List Byte) (h : ReqHeader) (st : Staging) : Prop
    extends State.Writing s p h st where
  code : h.code = code
  whole : h.len.toNat = body.length
  attached : (s.port p).session = .attached

/-- The port when its request has been answered: the response at the tail of the queue (R156), chip select high, IDLE (R150), and
H'00 returned for each body byte. -/
def HostPort.answered (x : HostPort) (h : ReqHeader) (r : Reply) (n : Nat) : HostPort :=
  { x with
    responses := x.responses ++ [{ tag := h.tag, code := h.code, result := r.result, body := r.body, msg := r.msg }],
    csLow := false, txn := .idle, hso := x.hso ++ zeros n }

/-- The state when port `p` has answered a request with `n` body bytes. -/
def State.reply (s : State) (p : Slot) (h : ReqHeader) (r : Reply) (n : Nat) : State :=
  s.setPort p ((s.port p).answered h r n)

/-- A message staged on port `p` is freed: its blocks pass from TX to FREE, the charge is returned, and the credit-owed list is served
(R93, R101). -/
def State.unstaged (s : State) (p : Slot) (st : Staging) : State :=
  match st with
  | .granted n => (s.setPool { s.pool with
      free := s.pool.free + (n + 63) / 64, usage := s.pool.usage.set p (s.pool.usage[p] - (n + 63) / 64) }).serve
  | .none | .refused _ => s

/-- The row of the table that a command code belongs to (Table 9-3). -/
def requestOf (code : Byte) (p : Slot) (body : List Byte) : Instr :=
  if code = 0x01#8 then .attach p body else if code = 0x02#8 then .detach p body
  else if code = 0x10#8 then .linkStart p body else if code = 0x11#8 then .linkStop p body
  else if code = 0x12#8 then .linkClaim p body else if code = 0x13#8 then .linkQuery p body
  else if code = 0x20#8 then .chListen p body else if code = 0x21#8 then .chOpen p body
  else if code = 0x22#8 then .chClose p body else if code = 0x23#8 then .chRelease p body
  else if code = 0x24#8 then .chQuery p body else if code = 0x30#8 then .send p body
  else if code = 0x31#8 then .recv p body else if code = 0x40#8 then .poolQuery p body
  else .unknownCommand p body

/-- The commands after which an idle transmitter may find a frame to take (log entry 13). -/
def mayOweFrames (code : Byte) : Bool :=
  [0x02#8, 0x10#8, 0x11#8, 0x21#8, 0x22#8, 0x23#8, 0x30#8, 0x31#8].contains code

/-- The end of a request with a command code: an idle transmitter takes a frame where the command may have made one takeable. -/
def State.concluded (s : State) (code : Byte) : State := if mayOweFrames code then s.settle else s

/-- The local id `a` of a CH-LISTEN or CH-OPEN resolves to record `i` (R5). -/
def State.Resolves (s : State) (a : Byte) (i : ChanId) : Prop :=
  (s.chan i).state = .free ∧ (a.toNat = i.val ∨ (a = 0xFF#8 ∧ ∀ j, j < i → (s.chan j).state ≠ .free))

/-- Slot `p` owns record `i`, which is not FREE. -/
abbrev State.Owns (s : State) (p : Slot) (i : ChanId) : Prop := (s.chan i).state ≠ .free ∧ (s.chan i).owner = p

/-- A record ended with a reason (R121). -/
def Chan.endedWith (c : Chan) (r : Reason) : Chan :=
  { state := .ended, owner := c.owner, link := c.link, remote := c.remote, cls := c.cls, rxWindow := c.rxWindow,
    rxHeld := c.rxHeld, recvQ := c.recvQ, endReason := some r }

/-- A record aborted (R122). -/
def Chan.aborted (c : Chan) : Chan :=
  { state := .aborting, owner := c.owner, link := c.link, remote := c.remote, cls := c.cls, rxWindow := c.rxWindow,
    closeSent := c.closeSent, owed := if c.closeSent then {} else { close := some true } }

/-- A record that completes an open handshake (R11). -/
def Chan.opens (c : Chan) (peerWindow : Nat) : Chan :=
  { c with state := .opened, peerWindow, txUsed := 0, txLimit := BitVec.ofNat 8 peerWindow, sendQ := [] }

/-- A record when its owner's session ends (R135): FREE, ABORTING, or unchanged. -/
def Chan.givenUp (c : Chan) : Chan :=
  match c.state with
  | .free | .listen | .ended => {}
  | .opening => if c.owed.opn then {} else c.aborted
  | .opened | .closing => c.aborted
  | .aborting => c

/-- A record when its link is torn down (R133): ended, FREE, or unchanged. -/
def Chan.tornDown (c : Chan) (r : Reason) : Chan :=
  match c.state with
  | .opening | .opened | .closing => c.endedWith r
  | .aborting => {}
  | .free | .listen | .ended => c

/-- The event that a teardown posts for a record bound to the link, with the slot it goes to (R133). -/
def Chan.tornEvent (c : Chan) (i : ChanId) (r : Reason) : Option (Slot × Event) :=
  match c.state with
  | .opening | .opened | .closing => some (c.owner, { kind := .chEnded, link := c.link, channel := i, reason := some r, arg := c.sendQ.length })
  | .aborting => some (c.owner, { kind := .chFreed, link := c.link, channel := i, reason := none, arg := 0 })
  | .free | .listen | .ended => none

/-- The channel events of a teardown of link `l`, in ascending order of record id. -/
def State.tornEvents (s : State) (l : LinkId) (r : Reason) : List (Slot × Event) :=
  allChans.filterMap fun i => if (s.chan i).link = l then (s.chan i).tornEvent i r else none

/-- The body lengths that a command accepts, for the command codes of Table 9-3. -/
def acceptedLengths (code : Byte) : Option (Nat → Bool) :=
  match code.toNat with
  | 0x01 | 0x02 | 0x40 => some fun n => n == 0
  | 0x10 => some fun n => n == 2 || n == 10
  | 0x11 | 0x12 | 0x13 | 0x22 | 0x23 | 0x24 | 0x31 => some fun n => n == 1
  | 0x20 | 0x21 => some fun n => n == 5
  | 0x30 => some fun n => decide (3 ≤ n)
  | _ => none

/-- The result of the first check in a list that fails. -/
def firstFailing (checks : List (Bool × Result)) : Option Result := (checks.find? fun x => x.1).map fun x => x.2

/-- The checks of each command after the common ones, in the order of its rule (R28, R30 to R33, R5 to R7, R25, R109, R117, R123,
R127, R158): whether the check fails, and the result it then gives. -/
def State.checks (s : State) (p : Slot) (code : Byte) (body : List Byte) (st : Staging) : List (Bool × Result) :=
  let b (k : Nat) : Nat := (body.getD k 0#8).toNat
  let b2 (k : Nat) : Nat := b k * 256 + b (k + 1)
  let k := s.link (Fin.ofNat 2 (b 0))
  let c := s.chan (Fin.ofNat 32 (b 0))
  let notOurs : List (Bool × Result) := [(decide (31 < b 0), .badArg), (decide (c.state = .free ∨ c.owner ≠ p), .notOwner)]
  let take : List (Bool × Result) :=
    [(decide (b 0 ≤ 31 ∧ c.state ≠ .free), .inUse), (decide (b 0 = 255 ∧ ∀ j, (s.chan j).state ≠ .free), .noChannel)]
  match code.toNat with
  | 0x01 => [(decide ((s.port p).session = .attached), .badState)]
  | 0x10 =>
    [(decide (1 < b 0 ∨ 1 < b 1), .badArg),
     (decide (body.length = 10 ∧ (b 2 = 0 ∨ 16 < b 2 ∨ 7 < b 3 ∨ b 4 = 0 ∨ b2 5 < 10 ∨ 10000 < b2 5
        ∨ (1 ≤ b2 7 ∧ b2 7 ≤ 99) ∨ 60000 < b2 7 ∨ b 9 = 0 ∨ 15 < b 9)), .badArg),
     (decide (k.state = .listening ∨ k.state = .starting ∨ k.state = .up ∨ k.state = .stopping), .badState),
     (decide (k.state = .failed ∧ k.controller ≠ none ∧ k.controller ≠ some p), .notController)]
  | 0x11 =>
    [(decide (1 < b 0), .badArg), (decide (k.state = .down ∨ k.state = .stopping), .badState),
     (decide (k.controller ≠ some p), .notController)]
  | 0x12 =>
    [(decide (1 < b 0), .badArg), (decide (k.state = .down), .badState),
     (decide (k.controller ≠ none ∧ k.controller ≠ some p), .notController)]
  | 0x13 => [(decide (1 < b 0), .badArg)]
  | 0x20 =>
    (decide ((32 ≤ b 0 ∧ b 0 ≤ 254) ∨ 1 < b 1 ∨ (32 ≤ b 2 ∧ b 2 ≤ 254) ∨ b 3 = 0 ∨ 64 < b 3 ∨ 1 < b 4), .badArg) :: take
  | 0x21 =>
    (decide ((32 ≤ b 0 ∧ b 0 ≤ 254) ∨ 1 < b 1 ∨ 31 < b 2 ∨ b 3 = 0 ∨ 64 < b 3 ∨ 1 < b 4), .badArg) :: take
      ++ [(decide ((s.link (Fin.ofNat 2 (b 1))).state ≠ .up), .linkNotUp),
          (decide (s.pool.free - s.pool.reserved < b 3), .noBuffer)]
  | 0x22 => notOurs ++ [(decide (c.state ≠ .opened), .badState)]
  | 0x23 => notOurs ++ [(decide (c.state = .aborting), .badState)]
  | 0x24 => [(decide (31 < b 0), .badArg)]
  | 0x30 =>
    [(decide (31 < b 0 ∨ 1 < b 2 ∨ body.length - 3 < 1 ∨ 1024 < body.length - 3), .badArg),
     (decide (c.state = .free ∨ c.owner ≠ p), .notOwner), (decide (c.state ≠ .opened), .badState),
     (decide (c.peerWindow < (body.length - 3 + 63) / 64), .tooLarge), (decide (16 ≤ c.sendQ.length), .queueFull)]
      ++ (match st with | .refused r => [(true, r)] | .none | .granted _ => [])
  | 0x31 => notOurs ++ [(decide (c.state = .aborting), .badState), (decide (c.recvQ = []), .empty)]
  | _ => []

/-! ## Frames -/

/-- The fields of a content that R145 checks. -/
def Content.wellFormed : Content → Bool
  | .data payload => decide (1 ≤ payload.length ∧ payload.length ≤ 1024)
  | .ctl (.opn w) | .ctl (.accept w) => decide (1 ≤ w ∧ w ≤ 64)
  | .ctl (.refuse r) => r == .noListener || r == .busy || r == .noBuffer
  | .ctl (.close _) | .ctl .closed | .ctl (.credit _) => true

/-- A frame that passes the format checks of R145. -/
def Frame.wellFormed : Frame → Bool
  | .linkOpen sender w => sender != 0#8 && decide (1 ≤ w ∧ w ≤ 16)
  | .linkAccept echoed sender w => echoed != 0#8 && sender != 0#8 && decide (1 ≤ w ∧ w ≤ 16)
  | .linkClose | .linkClosed | .status _ _ _ | .resend _ => true
  | .seq _ _ _ _ c => c.wellFormed

/-- The row of the table that a received frame belongs to. -/
def Frame.command (f : Frame) (l : LinkId) : Instr :=
  match f with
  | .linkOpen _ _ => .linkOpen l
  | .linkAccept _ _ _ => .linkAccept l
  | .linkClose => .linkClose l
  | .linkClosed => .linkClosed l
  | .status _ _ _ => .status l
  | .resend _ => .resend l
  | .seq _ _ _ _ (.data _) => .data l
  | .seq _ _ _ _ (.ctl (.opn _)) => .chanOpen l
  | .seq _ _ _ _ (.ctl (.accept _)) => .chanAccept l
  | .seq _ _ _ _ (.ctl (.refuse _)) => .chanRefuse l
  | .seq _ _ _ _ (.ctl (.close _)) => .chanClose l
  | .seq _ _ _ _ (.ctl .closed) => .chanClosed l
  | .seq _ _ _ _ (.ctl (.credit _)) => .chanCredit l

/-- The nr that a frame carries (R54). -/
def Frame.nr : Frame → Option Seq
  | .linkOpen _ _ | .linkAccept _ _ _ | .linkClose | .linkClosed => none
  | .status nr _ _ => some nr
  | .resend nr => some nr
  | .seq _ nr _ _ _ => some nr

/-- Frame `f` is the oldest frame held by line port `l` (R146). -/
def State.Hears (s : State) (l : LinkId) (f : Frame) : Prop := (s.line l).held.head? = some f

/-- The oldest held frame has left its buffer (R146). -/
def State.heard (s : State) (l : LinkId) : State := s.setLine l { s.line l with held := (s.line l).held.tail }

/-- T_idle restarted, if it runs (R55, R68). -/
def Link.idled (k : Link) : Link :=
  { k with tIdle := if k.tIdle.isSome ∧ k.par.tIdle ≠ 0 then some k.par.tIdle else none }

/-- The state after the first two parts of R55: the frame has left its buffer, T_idle is restarted if it runs, and a valid nr has
been processed as an acknowledgement. -/
def State.afterNr (s : State) (l : LinkId) (nr : Seq) : State :=
  ((s.heard l).setLink l (s.link l).idled).acknowledge l nr

/-- The state in which the content of an accepted sequenced frame reaches the channel table (R59, R61). -/
def State.afterAccept (s : State) (l : LinkId) (nr : Seq) : State :=
  let k := (s.afterNr l nr).link l
  (s.afterNr l nr).setLink l { k with
    vr := k.vr + 1, resendSent := false, owedSup := { k.owedSup with resend := false },
    ackPending := true, tAck := if k.ackPending then k.tAck else some k.par.tAck }

/-- Link `l` is UP, and a sequenced frame held oldest by its port is in sequence with a valid nr and carries `c` from `src` to
`dst`. -/
structure State.Accepts (s : State) (l : LinkId) (nr : Seq) (dst src : ChanId) (c : Content) : Prop where
  up : (s.link l).state = .up
  frame : s.Hears l (.seq (s.link l).vr nr dst src c)
  valid : (nr - (s.link l).va).toNat ≤ ((s.link l).vs - (s.link l).va).toNat

/-- The record that `dst` names matches a frame from `src` on link `l` (R4). -/
def State.Matches (s : State) (l : LinkId) (dst src : ChanId) : Prop :=
  (s.chan dst).state ≠ .free ∧ (s.chan dst).link = l ∧ (s.chan dst).remote = some src

/-- An answer handed to an answer list: one entry per peer channel, the new one in the old one's place (R80). -/
def answersWith (a : Answer) (q : List Answer) : List Answer :=
  if ∃ b ∈ q, b.peerCh = a.peerCh then q.map fun b => if b.peerCh = a.peerCh then a else b else q ++ [a]

/-- The stray channel frames counter rises (R10, R49). -/
def State.strayed (s : State) (l : LinkId) : State :=
  s.setLink l { s.link l with counters := { (s.link l).counters with stray := (s.link l).counters.stray + 1 } }

/-- An ABORTING record becomes FREE: it leaves the control-ready list if it owed its CLOSE, and CH-FREED is posted to its owner (R20,
R126). -/
def State.freedAborted (s : State) (i : ChanId) : State :=
  let c := s.chan i
  let k := s.link c.link
  ((s.setChan i {}).setLink c.link { k with ready := if c.owed = {} then k.ready else k.ready.filter (· != i) }).postTo c.owner
    { kind := .chFreed, link := c.link, channel := i, reason := none, arg := 0 }

/-- What giving up record `i` does outside the record, before the credit-owed list is served (R121, R122): the messages `tx` and `rx`
are freed, the outstanding credit of the record is released, the record leaves the credit-owed list, the notify flags of its
retransmission entries are cleared, and `ready` is the control-ready list of its link. -/
structure State.Sheds (s w : State) (i : ChanId) (tx : List TxMsg) (rx : Nat) (ready : List ChanId) : Prop where
  others : ∀ j, j ≠ i → w.chan j = s.chan j
  links : ∀ l, w.link l = { s.link l with
    rtx := if l = (s.chan i).link then (s.link l).rtx.map (Entry.clearNotify i) else (s.link l).rtx
    ready := if l = (s.chan i).link then ready else (s.link l).ready }
  free : w.pool.free = s.pool.free + (tx.map fun m => (m.payload.length + 63) / 64).sum + rx
  rx : w.pool.rx = s.pool.rx - rx
  usage : ∀ n : Slot, w.pool.usage[n] = s.pool.usage[n] - ((tx.filter fun m => m.slot = n).map fun m => (m.payload.length + 63) / 64).sum
  reserved : w.pool.reserved = s.pool.reserved - ((s.chan i).rxGranted - (s.chan i).rxConsumed).toNat
  owed : w.pool.creditOwed = s.pool.creditOwed.filter (· != i)
  lines : w.lines = s.lines
  model : w.resetLow = s.resetLow ∧ w.freeCount = s.freeCount ∧ w.pending = s.pending

/-! ## Changes of a link -/

/-- A link record as it enters DOWN or FAILED with a reason (R31, R34, R42, R44), owing the link frames `o`. -/
def Link.fell (k : Link) (st : LinkState) (r : Reason) (o : OwedLink) : Link :=
  { k with
    state := st, vs := 0, va := 0, vr := 0, retry := 0, tAck := none, tResp := none, tIdle := none, lastReason := some r,
    owedLink := o, controller := if st = .down then none else k.controller }

/-- A link enters DOWN or FAILED, and LINK-DOWN is posted to every attached host. -/
def State.fell (s : State) (l : LinkId) (st : LinkState) (r : Reason) (o : OwedLink) : State :=
  (s.setLink l ((s.link l).fell st r o)).postAll { kind := .linkDown, link := l, channel := 0, reason := some r, arg := 0 }

/-- A link record as it enters UP afresh (R39), owing the link frames `o`. -/
def Link.rose (k : Link) (peer : Byte) (agreed : Nat) (o : OwedLink) : Link :=
  { k with
    state := .up, vs := 0, va := 0, vr := 0, rtx := [], ready := [], answers := [], goBack := none, owedSup := {},
    pollOutstanding := false, ackPending := false, resendSent := false, retry := 0, tAck := none, tResp := none,
    tIdle := if k.par.tIdle = 0 then none else some k.par.tIdle, peerEpoch := some peer, agreed := some agreed, owedLink := o }

/-- A link record when a new sequenced frame with a body has been taken (R53, R54): numbered V(s), at the tail of the retransmission
list, with T_resp started and T_idle stopped if that list was empty. -/
def Link.sent (k : Link) (dst src : ChanId) (body : EntryBody) : Link :=
  { k with
    vs := k.vs + 1, rtx := k.rtx ++ [{ ns := k.vs, localCh := src, peerCh := dst, body }],
    tResp := if k.rtx = [] then some k.par.tResp else k.tResp, tIdle := if k.rtx = [] then none else k.tIdle,
    ackPending := false, tAck := none, owedSup := { k.owedSup with ack := false } }

/-- A frame occupies the transmit buffer of line port `l` (R73, R140). -/
def State.sending (s : State) (l : LinkId) (f : Frame) : State := s.setLine l { s.line l with tx := some { frame := f } }

/-! ## The order of selection (Table 4-2) -/

/-- The blocks that a record may still send: the credit gate (R84). -/
def Chan.mayData (c : Chan) (l : LinkId) (m : TxMsg) : Prop :=
  c.link = l ∧ (c.state = .opened ∨ c.state = .closing) ∧ c.sendQ.head? = some m
    ∧ (m.payload.length + 63) / 64 ≤ (c.txLimit - c.txUsed).toNat

/-- The owed member of the highest rank (R23): OPEN or ACCEPT, then CREDIT, then CLOSE. -/
def Owed.owesFirst (o : Owed) : Member → Prop
  | .opn => o.opn = true
  | .accept => o.opn = false ∧ o.accept = true
  | .credit => o.opn = false ∧ o.accept = false ∧ o.credit = true
  | .close => o.opn = false ∧ o.accept = false ∧ o.credit = false ∧ o.close.isSome = true

/-- The window of a link is open (R79): fewer sequenced frames than the agreed window are unacknowledged. -/
def Link.hasRoom (k : Link) : Prop := ∃ a, k.agreed = some a ∧ (k.vs - k.va).toNat < a

/-- The conditions of Table 4-2 under which a kind can be taken on link `l`. -/
def State.Takeable (s : State) (l : LinkId) : Taking → Prop
  | .link .closed => (s.link l).owedLink.closed = true
  | .link .close => (s.link l).owedLink.close = true
  | .link .accept => (s.link l).owedLink.accept = true
  | .link .opn => (s.link l).owedLink.opn = true
  | .statusFrame => (s.link l).state = .up ∧ ((s.link l).owedSup.answer = true ∨ (s.link l).owedSup.poll = true)
  | .resend => (s.link l).state = .up ∧ (s.link l).owedSup.resend = true
  | .retransmit e => (s.link l).state = .up ∧ ∃ g, (s.link l).goBack = some g ∧ e ∈ (s.link l).rtx ∧ e.ns = g.pointer
  | .answer a => (s.link l).state = .up ∧ (s.link l).hasRoom ∧ (s.link l).answers.head? = some a
  | .ready i m => (s.link l).state = .up ∧ (s.link l).hasRoom ∧ (s.link l).ready.head? = some i ∧ (s.chan i).owed.owesFirst m
  | .data i m => (s.link l).state = .up ∧ (s.link l).hasRoom ∧ (s.chan i).mayData l m
  | .plainStatus => (s.link l).state = .up ∧ (s.link l).owedSup.ack = true

/-- The place of a kind in the order of selection: link frames in the order of R75, then the ranks of Table 4-2; DATA by class, and
within a class by the distance of the channel id from the round-robin pointer of the class (R84). -/
def State.rank (s : State) (l : LinkId) : Taking → Nat
  | .link .closed => 0
  | .link .close => 1
  | .link .accept => 2
  | .link .opn => 3
  | .statusFrame => 4
  | .resend => 5
  | .retransmit _ => 6
  | .answer _ => 7
  | .ready _ _ => 8
  | .data i _ =>
    match (s.chan i).cls with
    | .urgent => 9 + (i - (s.link l).rrUrgent - 1).val
    | .normal => 41 + (i - (s.link l).rrNormal - 1).val
  | .plainStatus => 73

/-- An enabled port whose transmit buffer is free leaves nothing that can be taken (R73). -/
def State.Settled (s : State) : Prop :=
  ∀ l, (s.line l).enabled = true → (s.line l).tx = none → s.choose l = none

/-! ## The laws of a host port (R149, R153, R162) -/

/-- What a staging outcome says of its request (R92, R108). -/
def Staging.fits (st : Staging) (h : ReqHeader) (session : Session) : Prop :=
  let claims := h.code = 0x30#8 ∧ session = .attached ∧ 4 ≤ h.len.toNat ∧ h.len.toNat ≤ 1027
  match st with
  | .none => ¬ claims
  | .granted n => claims ∧ n = h.len.toNat - 3
  | .refused r => claims ∧ (r = .quota ∨ r = .noBuffer)

/-- The law of the two queues and of the transaction of a port. -/
structure HostPort.Ok (x : HostPort) : Prop where
  ordinary : (x.events.filter Event.ordinary).length ≤ 31
  overflowLast : ∀ e ∈ x.events.dropLast, e.ordinary = true
  overflowArg : ∀ e ∈ x.events, e.kind = .overflow → 1 ≤ e.arg ∧ e.arg ≤ 65535
  responses : x.responses.length ≤ 8
  room : ∀ h st, x.txn = .writeBody h st → x.responses.length < 8
  noSession : x.session ≠ .attached → x.events = []
  inReset : x.session = .reset → x.responses = [] ∧ x.drop = false ∧ (x.txn = .idle ∨ x.txn = .ignore)
  idle : x.csLow = false → x.txn = .idle
  chosenResponse : ∀ r, x.txn = .readResponse (some r) → x.responses.head? = some r
  chosenEvent : ∀ e n, x.txn = .readEvent (some e) n →
    n ≤ 65535 ∧ (e.kind ≠ .overflow → x.events.head? = some e) ∧ (e.kind = .overflow → ∃ a, x.events = [{ e with arg := a }])
  staging : ∀ h st, x.txn = .writeBody h st → st.fits h x.session

/-- The ports obey their law, and RESET is the session exactly while HRSTn is asserted (R149). -/
structure State.PortsOk (s : State) : Prop where
  ok : ∀ p, (s.port p).Ok
  held : s.resetLow = true → ∀ p, s.port p = (s.port p).held
  pin : s.resetLow = false → ∀ p, (s.port p).session = .reset ↔ (s.port p).hrstLow = true

/-! ## The laws of a line port (R137, R142 to R146) -/

/-- The law of a line port: a disabled port is at its state after device reset, whatever the level of LRDYn; a body is being filled
exactly in BODY and ESCAPE; the two receive buffers suffice; every held frame has passed the format checks; a frame is sent no further
than to its end, and one cut off by a teardown is sequenced and had a character of its escaped body not yet begun. -/
structure LinePort.Ok (x : LinePort) : Prop where
  disabled : x.enabled = false → x = { lrdy := x.lrdy }
  running : x.enabled = true → x.rx ≠ .stopped ∧ x.rate.isSome = true ∧ x.charRate.isSome = true
  filling : x.filling.isSome = true ↔ (x.rx = .body ∨ x.rx = .escape)
  length : ∀ b, x.filling = some b → b.length ≤ 1033
  buffers : x.held.length + (if x.filling.isSome then 1 else 0) ≤ 2
  held : ∀ f ∈ x.held, f.wellFormed = true
  begun : ∀ t, x.tx = some t → t.begun ≤ t.chars.length + 1
  cut : ∀ t n, x.tx = some t → t.cut = some n → t.frame.sequenced = true ∧ n + 1 < t.frame.lineChars.length ∧ n ≤ t.begun
  phase : x.phase < 100

def State.LinesOk (s : State) : Prop := ∀ l, (s.line l).Ok

/-! ## The laws of a link record (R26, R50 to R52, R64, R68, R79, R80) -/

/-- The law of a link record. -/
structure Link.Ok (k : Link) : Prop where
  params : ∀ q, k.params = some q → q.inRange = true
  agreed : ∀ a, k.agreed = some a → a ≤ 16
  down : k.state ≠ .up → k.vs = 0 ∧ k.va = 0 ∧ k.vr = 0 ∧ k.rtx = [] ∧ k.goBack = none ∧ k.pollOutstanding = false
    ∧ k.ackPending = false ∧ k.resendSent = false ∧ k.owedSup = {} ∧ k.answers = []
  window : k.state = .up → k.rtx.length = (k.vs - k.va).toNat ∧ k.rtx.length ≤ k.agreed.getD 0
  numbered : ∀ (n : Nat) (e : Entry), k.rtx[n]? = some e → e.ns = k.va + BitVec.ofNat 5 n
  pass : ∀ g, k.goBack = some g → (g.pointer - k.va).toNat < k.rtx.length
  answers : (k.answers.map Answer.peerCh).Nodup
  acks : k.owedSup.ack = true → k.ackPending = true
  gaps : k.owedSup.resend = true → k.resendSent = true
  owedOpen : k.owedLink.opn = true → k.state = .starting
  owedClose : k.owedLink.close = true → k.state = .stopping
  vacant : k.state = .down → k.controller = none
  retry : k.retry ≤ k.par.nRetry
  resting : k.state = .down ∨ k.state = .listening ∨ k.state = .failed → k.tAck = none ∧ k.tResp = none ∧ k.tIdle = none
  waiting : k.state = .starting ∨ k.state = .stopping → k.tAck = none ∧ k.tResp.isSome = true ∧ k.tIdle = none
  ackTimer : k.tAck.isSome = true → k.ackPending = true
  respTimer : k.state = .up → (k.tResp.isSome = true ↔ (k.rtx ≠ [] ∨ k.pollOutstanding = true))
  idleTimer : k.tIdle.isSome = true → k.tResp = none
  idleRuns : k.state = .up → k.tResp = none → k.par.tIdle ≠ 0 → k.tIdle.isSome = true
  ackRuns : k.ackPending = true → k.tAck.isSome = true ∨ k.owedSup.ack = true

def State.LinksOk (s : State) : Prop := ∀ l, (s.link l).Ok

/-! ## The laws of the channel table -/

/-- A record holds a pairing on the line: OPENING, OPEN, CLOSING or ABORTING. -/
def ChState.onLine : ChState → Bool
  | .opening | .opened | .closing | .aborting => true
  | .free | .listen | .ended => false

/-- A record on the line is bound to a link that is UP, every other record owes nothing (R22, R134), and the control-ready list of a
link holds exactly the records bound to it that owe frames, each once (R24, R82). -/
structure State.ReadyOk (s : State) : Prop where
  live : ∀ i, (s.chan i).state.onLine = true → (s.link (s.chan i).link).state = .up
  quiet : ∀ i, (s.chan i).state.onLine = false → (s.chan i).owed = {}
  once : ∀ l, (s.link l).ready.Nodup
  exact : ∀ l i, i ∈ (s.link l).ready ↔ ((s.chan i).link = l ∧ (s.chan i).owed ≠ {})

/-- The blocks of the messages of a receive queue. -/
def heldBlocks (q : List RxMsg) : Nat := (q.map RxMsg.blocks).sum

/-- The law of a record, by its state (Table 1-2, R22, R85, R89, R102, R111, R115, R122, R124). -/
structure Chan.Ok (c : Chan) : Prop where
  free : c.state = .free → c = {}
  window : c.state ≠ .free → 1 ≤ c.rxWindow ∧ c.rxWindow ≤ 64
  remote : c.state.onLine = true ∨ c.state = .ended → c.remote.isSome = true
  held : c.rxHeld = heldBlocks c.recvQ
  receive : c.outstanding + c.rxHeld ≤ c.rxWindow
  granting : c.state ≠ .opening ∧ c.state ≠ .opened ∧ c.state ≠ .closing → c.rxGranted = 0 ∧ c.rxConsumed = 0
  listen : c.state = .listen → c.recvQ = [] ∧ c.owed = {}
  opening : c.state = .opening → c.recvQ = [] ∧ (c.owed = {} ∨ c.owed = { opn := true })
  opened : c.state = .opened → c.owed.opn = false ∧ c.owed.close = none
  closing : c.state = .closing → c.owed.opn = false ∧ c.owed.close ≠ some true
    ∧ (c.closeSent = true → c.sendQ = [] ∧ c.owed = {})
    ∧ (c.closeSent = false → (c.owed.close = some false ↔ c.sendQ = []))
  ended : c.state = .ended → c.owed = {} ∧ c.endReason.isSome = true
  aborting : c.state = .aborting → c.recvQ = [] ∧ c.owed = if c.closeSent then {} else { close := some true }
  creditFirst : c.owed.close.isSome = true → c.owed.credit = false
  closeSent : c.closeSent = true → c.state = .closing ∨ c.state = .aborting
  sendQueue : c.state ≠ .opened ∧ c.state ≠ .closing → c.sendQ = []
  sendMax : c.sendQ.length ≤ 16
  peerCredit : c.state = .opened ∨ c.state = .closing → c.available ≤ c.peerWindow ∧ 1 ≤ c.peerWindow ∧ c.peerWindow ≤ 64
  crediting : c.state ≠ .opened ∧ c.state ≠ .closing → c.peerWindow = 0 ∧ c.txLimit = 0 ∧ c.txUsed = 0
  reason : c.state ≠ .ended → c.endReason = none
  listening : c.state ≠ .listen → c.refusedAttempts = 0
  refused : c.refusedAttempts ≤ 255

def State.RecordsOk (s : State) : Prop := ∀ i, (s.chan i).Ok

/-! ## The laws of the buffer pool (R87, R88, R91, R101) -/

/-- The blocks of the messages of a list that are charged to slot `n`. -/
def chargedBlocks (n : Slot) (ms : List TxMsg) : Nat := ((ms.filter fun m => m.slot = n).map TxMsg.blocks).sum

/-- The blocks of the message that a port is staging. -/
def Staging.blocks : Staging → Nat
  | .granted len => blocksOf len
  | .none | .refused _ => 0

/-- The blocks charged to slot `n`: staged on its port, in send queues, and in retransmission lists (R91, R106). -/
def State.charged (s : State) (n : Slot) : Nat :=
  (s.port n).txn.staging.blocks + (allChans.map fun i => chargedBlocks n (s.chan i).sendQ).sum
    + chargedBlocks n (dataMsgs (s.link 0).rtx) + chargedBlocks n (dataMsgs (s.link 1).rtx)

/-- The blocks of received messages: in receive queues and in response queues (R87, R107). -/
def State.received (s : State) : Nat :=
  (allChans.map fun i => heldBlocks (s.chan i).recvQ).sum + (allSlots.map fun p => heldBlocks (heldMsgs (s.port p).responses)).sum

/-- The sum of outstanding receive credit over all records (R88). -/
def State.credit (s : State) : Nat := (allChans.map fun i => (s.chan i).outstanding).sum

/-- The law of the pool. -/
structure State.PoolOk (s : State) : Prop where
  total : s.pool.free + s.pool.tx + s.pool.rx = 1024
  usage : ∀ n : Slot, s.pool.usage[n] = s.charged n
  quota : ∀ n : Slot, s.pool.usage[n] ≤ 192
  rx : s.pool.rx = s.received
  reserved : s.pool.reserved = s.credit
  backed : s.pool.reserved ≤ s.pool.free
  once : s.pool.creditOwed.Nodup
  waiting : ∀ i ∈ s.pool.creditOwed, (s.chan i).state = .opened
  short : s.pool.creditOwed ≠ [] → s.pool.unreserved = 0

/-! ## Frames sent (R167) -/

/-- A snapshot or message that makes a well-formed frame. -/
def EntryBody.wellFormed : EntryBody → Bool
  | .data m => Content.wellFormed (.data m.payload)
  | .ctl c => Content.wellFormed (.ctl c)

/-- Everything from which a frame is built is in the ranges of R145, and so are the frames held and being sent. -/
structure State.FramesOk (s : State) : Prop where
  sending : ∀ l t, (s.line l).tx = some t → t.frame.wellFormed = true
  held : ∀ l, ∀ f ∈ (s.line l).held, f.wellFormed = true
  params : ∀ l q, (s.link l).params = some q → q.inRange = true
  started : ∀ l, (s.link l).state ≠ .down → (s.link l).ownEpoch ≠ 0#8
  openOwed : ∀ l, (s.link l).owedLink.opn = true → (s.link l).ownEpoch ≠ 0#8
  acceptOwed : ∀ l, (s.link l).owedLink.accept = true →
    (s.link l).ownEpoch ≠ 0#8 ∧ (s.link l).peerEpoch.isSome = true ∧ (s.link l).agreed.isSome = true
  peer : ∀ l e, (s.link l).peerEpoch = some e → e ≠ 0#8
  agreed : ∀ l a, (s.link l).agreed = some a → 1 ≤ a ∧ a ≤ 16
  together : ∀ l, (s.link l).peerEpoch.isSome = (s.link l).agreed.isSome
  entries : ∀ l, ∀ e ∈ (s.link l).rtx, e.body.wellFormed = true
  answers : ∀ l, ∀ a ∈ (s.link l).answers, ∀ r, a.refuse = some r → Content.wellFormed (.ctl (.refuse r)) = true
  queued : ∀ i, ∀ m ∈ (s.chan i).sendQ, Content.wellFormed (.data m.payload) = true
  windows : ∀ i, (s.chan i).state ≠ .free ∨ (s.chan i).owed ≠ {} → 1 ≤ (s.chan i).rxWindow ∧ (s.chan i).rxWindow ≤ 64

/-! ## Device reset (R169) -/

/-- While RESET is low every block is at its state after device reset, whatever the levels of its pins. -/
def State.ResetOk (s : State) : Prop :=
  s.resetLow = true → s.chans = State.reset.chans ∧ s.pool = State.reset.pool ∧ s.links = State.reset.links
    ∧ (∀ l, s.line l = { lrdy := (s.line l).lrdy }) ∧ ∀ p, s.port p = (s.port p).held

end Sys2Proof.Machine
end

