-- ==== Sys2Proof/Certificates/Slice0/Obligations.lean ====
section
/-! DEFINITION. The statements about the LK340: what a step is and keeps, the line format, the transactions and requests of a host
port, the frames of a link, the timers, the arbiter, and the changes that several commands share. -/

open Sys2Proof Sys2Proof.Machine

/-! ## Steps and invariants -/

/-- A step takes the command at the front of the queue and runs it on the state with the rest of the queue. Claims are
taken one at a time, each on the state left by the one before (R35, R72, R90); the queue in which they wait is the model's choice (log
entry 20). -/
def Obligations.StepTakesFrontCommand : Prop :=
  ∀ (c : Instr) (rest : List Instr) (s : State),
    step { s with pending := c :: rest } = exec c { s with pending := rest }

/-- With no command waiting, the step is one tick of the 1 ms time base (the model's choice: log entry 2). While RESET is low nothing
changes (R169). Otherwise every running timer loses 1 ms of remaining time (R26), and every enabled line port sends what its rate gives
in 1 ms, counted in hundredths of a character (R138, R140; log entries 10 and 18): the character in progress goes on at the rate it was
begun with, and a frame being sent begins a character at each boundary, up to the end of its last one. The queue then holds, in an order that is left free (log entry 3), one expiry for each timer
whose remaining time is 0, the end of each transmission or truncation whose last character has been sent (R140, R141), and the sample
of LRDYn that changes the line-ready state of an enabled port (R147). Nothing else changes. -/
def Obligations.EmptyQueueTicks : Prop :=
  ∀ s : State, s.pending = [] →
    ∃ t, step s = .next t
      ∧ (s.resetLow = true → t = s)
      ∧ (s.resetLow = false →
        (∀ l, t.link l = { s.link l with
            tAck := (s.link l).tAck.map (· - 1), tResp := (s.link l).tResp.map (· - 1), tIdle := (s.link l).tIdle.map (· - 1) })
        ∧ (∀ l, (s.line l).enabled = false → t.line l = s.line l)
        ∧ (∀ l code old, (s.line l).enabled = true → (s.line l).rate = some code → code ≤ 7 → (s.line l).charRate = some old → old ≤ 7 →
          let x := s.line l
          let speed (c : Nat) : Nat := [96, 192, 576, 1152, 4608, 9216, 18432, 31250].getD c 0
          let left := 100 - x.phase
          (speed old < left → t.line l = { x with phase := x.phase + speed old })
          ∧ (left ≤ speed old →
            let n := speed code * (speed old - left) / speed old
            t.line l = { x with
              phase := n % 100, charRate := some code
              tx := x.tx.map fun y => { y with begun := min (y.begun + 1 + n / 100) (y.chars.length + 1) } }))
        ∧ (∀ c, t.pending.count c =
            (if ∃ l, (c = .tAckExpiry l ∧ (t.link l).tAck = some 0) ∨ (c = .tRespExpiry l ∧ (t.link l).tResp = some 0)
              ∨ (c = .tIdleExpiry l ∧ (t.link l).tIdle = some 0)
              ∨ (t.line l).enabled = true ∧
                ((∃ x, (t.line l).tx = some x ∧ x.chars.length < x.begun
                    ∧ (c = .transmitComplete l ∧ x.cut = none ∨ c = .truncationComplete l ∧ x.cut ≠ none))
                  ∨ c = .lineReadyAsserted l ∧ (t.line l).lrdy = true ∧ (t.line l).lineReady ≠ some true
                  ∨ c = .lineReadyDeasserted l ∧ (t.line l).lrdy = false ∧ (t.line l).lineReady ≠ some false) then 1 else 0))
        ∧ t.ports = s.ports ∧ t.chans = s.chans ∧ t.pool = s.pool ∧ t.resetLow = s.resetLow)

/-- The machine right after reset obeys every law: of the ports, the line ports, the link records, the channel table, the pool and the
frames, and an idle transmitter has nothing to take (R2, R27, R104, R137, R149; the pin levels are the model's choice, log entry 1). -/
def Obligations.ResetMeetsLaws : Prop :=
  State.reset.PortsOk ∧ State.reset.LinesOk ∧ State.reset.LinksOk ∧ State.reset.ReadyOk ∧ State.reset.RecordsOk
    ∧ State.reset.PoolOk ∧ State.reset.FramesOk ∧ State.reset.ResetOk ∧ State.reset.Settled

/-- Every step keeps the law of the host ports (R149, R153, R162, R163): at most 31 ordinary events and one OVERFLOW record, which
is the last; at most 8 responses, with room for the response of a request past its header; no event without a session; RESET exactly
while HRSTn is asserted; a record or response chosen by a read stays at the head until the read ends. -/
def Obligations.StepKeepsPorts : Prop :=
  ∀ s t : State, s.PortsOk → step s = .next t → t.PortsOk

/-- Every step keeps the law of the line ports (R137, R142 to R146): a disabled port is at its state after device reset, a body is being
filled exactly in BODY and ESCAPE, the two receive buffers suffice, held frames have passed the checks of R145, and a frame cut off by a
teardown is sequenced and had a character of its escaped body not yet begun (R141). -/
def Obligations.StepKeepsLines : Prop :=
  ∀ s t : State, s.LinesOk → step s = .next t → t.LinesOk

/-- Every step keeps the law of the link records: outside UP no sequenced state stands (R134), in UP the retransmission list holds
(V(s) - V(a)) mod 32 entries, numbered from V(a) on, never more than the agreed window (R51, R79), a go-back pointer stands on an
entry (R64), the answer list holds one entry per peer channel (R80), and each timer runs where Table 2-4 and Table 3-4 say: T_resp while
frames are unacknowledged or a poll is outstanding (R67), T_idle otherwise in UP unless it is 0 (R68), T_ack while an acknowledgement
is pending and not yet owed (R71). -/
def Obligations.StepKeepsLinks : Prop :=
  ∀ s t : State, s.LinksOk → step s = .next t → t.LinksOk

/-- Every step keeps the control-ready lists in step with the owed sets, and the records that hold a pairing on links that are UP
(R24, R82, R134). -/
def Obligations.StepKeepsReadyLists : Prop :=
  ∀ s t : State, s.ReadyOk → step s = .next t → t.ReadyOk

/-- Every step keeps the law of every channel record: each field is as its state allows (R1, Table 1-2), the owed set is one of those
of R22, R122, R123 and R126, outstanding credit plus rx held never exceeds the rx window (R89), the available tx credit never
exceeds the peer window, which is 1 to 64 (R85, R102), and a send queue holds at most 16 messages (R111). The windows of the frames held
by the line ports are in range (StepKeepsLines). -/
def Obligations.StepKeepsRecords : Prop :=
  ∀ s t : State, s.LinesOk → s.RecordsOk → step s = .next t → t.RecordsOk

/-- Every step keeps the law of the pool: FREE, TX and RX sum to 1024 (R87), each usage count is the blocks of the messages charged to
its slot and at most 192 (R91), R is the sum of outstanding credit and never exceeds FREE (R88), and the credit-owed list holds OPEN
records, each once, and is non-empty only while free-unreserved is 0 (R100, R101). -/
def Obligations.StepKeepsPool : Prop :=
  ∀ s t : State, s.PortsOk → s.LinksOk → s.RecordsOk → s.PoolOk → step s = .next t → t.PoolOk

/-- Every step keeps every frame that is handed to a line port within the checks of R145, with all that frames are built from (R167). -/
def Obligations.StepKeepsFrames : Prop :=
  ∀ s t : State, s.FramesOk → step s = .next t → t.FramesOk

/-- Every step keeps every block at its state after device reset while RESET is low (R169), whatever the levels of its input pins (log
entry 21). -/
def Obligations.StepKeepsReset : Prop :=
  ∀ s t : State, s.ResetOk → step s = .next t → t.ResetOk

/-- Every step leaves every idle transmitter with nothing that it could take (R73), where the control-ready lists and the ports obey
their laws (StepKeepsReadyLists, StepKeepsPorts). -/
def Obligations.StepKeepsSettled : Prop :=
  ∀ s t : State, s.PortsOk → s.ReadyOk → s.Settled → step s = .next t → t.Settled

/-! ## Line format -/

/-- Reading a frame body gives back the frame: for every frame whose fields are in the ranges of R145, the body that the part sends
(Tables 10-2 to 10-4, R139) passes the checks of R144 and R145 and is read as that frame. Bytes that are read as a frame are the fields
of a frame in those ranges, so that everything else fails the format checks. The CRC of a run of bytes is the remainder of its bits,
the most significant of each byte first and followed by 16 zeros, on division by x^16 + x^15 + x^2 + 1 over GF(2), and stands at the
end of the body, high byte first (R139). -/
def Obligations.FrameBodyReadsBack : Prop :=
  (∀ f : Frame, f.wellFormed = true → checkBody f.body = .good f)
  ∧ (∀ (bs : List Byte) (f : Frame), readFields bs = some f → f.wellFormed = true ∧ f.fields = bs)
  ∧ (∀ f : Frame, f.body = f.fields ++ [(crc16 f.fields).extractLsb' 8 8, (crc16 f.fields).extractLsb' 0 8])
  ∧ (∀ bs : List Byte,
    let x : Polynomial (ZMod 2) := Polynomial.X
    let bits (w : Nat) (v : BitVec w) : Polynomial (ZMod 2) := ((List.range w).map fun k => if v.getLsbD k then x ^ k else 0).sum
    ∃ quotient, bs.foldl (fun p b => p * x ^ 8 + bits 8 b) 0 * x ^ 16 = quotient * (x ^ 16 + x ^ 15 + x ^ 2 + 1) + bits 16 (crc16 bs))

/-- A frame sent on the line is received: a receiver in HUNT or GAP with a free receive buffer, taking the characters of a well-formed
frame (delimiter, escaped body, delimiter, R139), holds that frame behind those held before and is in GAP; the characters between
the delimiters hold no delimiter. From the levels of these characters on the line (R138: a start bit, eight data bits with the least
significant first, a stop bit) the receiver finds exactly these characters. -/
def Obligations.FrameOnLineIsReceived : Prop :=
  ∀ (x : LinePort) (f : Frame), f.wellFormed = true → (x.rx = .hunt ∨ x.rx = .gap) → x.held.length < 2 →
    x.receiveAll f.lineChars = { x with rx := .gap, filling := none, held := x.held ++ [f] }
    ∧ delimiter ∉ f.body.flatMap escapeOf
    ∧ f.lineChars = [0xA5#8] ++ f.body.flatMap (fun b =>
        if b = 0xA5#8 then [0x5A#8, 0x85#8] else if b = 0x5A#8 then [0x5A#8, 0x7A#8] else [b]) ++ [0xA5#8]
    ∧ Sampler.ready.read (f.lineChars.flatMap fun c =>
        [false, c.getLsbD 0, c.getLsbD 1, c.getLsbD 2, c.getLsbD 3, c.getLsbD 4, c.getLsbD 5, c.getLsbD 6, c.getLsbD 7, true])
      = (.ready, f.lineChars.map .byte)

/-! ## The receiver -/

/-- FRAME_BODY_START on an enabled port: in GAP, the first byte that is not a delimiter starts a body (R143). With a receive buffer free
the body is claimed, and the byte stored, or ESCAPE entered if it is the escape; with both held the frame is an overrun, counted once,
and the receiver goes to HUNT. The receiver no longer waits for the marking level, which the stop bit has shown it (R138). A buffer that
is being filled cannot stand beside a receiver in GAP (StepKeepsLines). -/
def Obligations.FrameBodyStartClaimsABuffer : Prop :=
  ∀ (s : State) (l : LinkId) (b : Byte), (s.line l).enabled = true → (s.line l).rx = .gap → b ≠ delimiter →
    let x : LinePort := { s.line l with rxWait := false }
    ((s.line l).held.length < 2 →
      exec (.frameBodyStart l b) s = .next (s.setLine l
        (if b = 0x5A#8 then { x with filling := some [], rx := .escape } else { x with filling := some [b], rx := .body })))
    ∧ (2 ≤ (s.line l).held.length →
      exec (.frameBodyStart l b) s = .next ((s.setLine l { x with rx := .hunt }).setLink l
        { s.link l with counters := { (s.link l).counters with overruns := (s.link l).counters.overruns + 1 } }))

/-- FRAME_END on an enabled port: a delimiter taken in BODY ends the body, and the checks are made in the order of R144: fewer than 3
bytes, or a CRC that differs, is a CRC error; a failed format check is a format error; a frame that passes is held behind those held
before and counted as good (log entry 11). The receiver is in GAP after it, whatever the outcome, and the buffer of a discarded frame is
free. -/
def Obligations.FrameEndChecksTheBody : Prop :=
  ∀ (s : State) (l : LinkId) (b : List Byte), (s.line l).enabled = true → (s.line l).rx = .body → (s.line l).filling = some b →
    let n := b.length - 2
    let k := s.link l
    let ended : LinePort := { s.line l with filling := none, rx := .gap, rxWait := false }
    ((b.length < 3 ∨ crcBytes (b.take n) ≠ b.drop n) →
      exec (.frameEnd l) s = .next ((s.setLine l ended).setLink l
        { k with counters := { k.counters with crcErrors := k.counters.crcErrors + 1 } }))
    ∧ (3 ≤ b.length → crcBytes (b.take n) = b.drop n → readFields (b.take n) = none →
      exec (.frameEnd l) s = .next ((s.setLine l ended).setLink l
        { k with counters := { k.counters with formatErrors := k.counters.formatErrors + 1 } }))
    ∧ (∀ f, 3 ≤ b.length → crcBytes (b.take n) = b.drop n → readFields (b.take n) = some f →
      exec (.frameEnd l) s = .next ((s.setLine l { ended with held := (s.line l).held ++ [f] }).setLink l
        { k with counters := { k.counters with goodFrames := k.counters.goodFrames + 1 } }))

/-- BODY_CHARACTER and HUNT_DELIMITER take a character, given by its levels after the marking level (R138), by the table of R142 (the
starts and ends of bodies are FRAME_BODY_START's and FRAME_END's). A disabled port takes nothing (R137). In HUNT a delimiter leads to GAP
and nothing else does anything; in GAP a delimiter and a framing error do nothing. In BODY and ESCAPE a framing error discards the
frame as a CRC error; an escape pair or any other byte of a body is stored, unless it would be the 1034th, which discards the frame as
a format error, as does anything but H'85 and H'7A after an escape; a delimiter there also begins the gap. A stop bit at the spacing
level is a framing error, however long the spacing level goes on, and the receiver then waits for the marking level: R138 says so of a
continuous spacing level longer than a character, and after any other framing error the wait is the model's choice (log entry 25). -/
def Obligations.BodyCharactersFollowTheTable : Prop :=
  ∀ (s : State) (l : LinkId) (b : List Byte),
    let x : LinePort := { s.line l with rxWait := false }
    let k := s.link l
    let takes (c : Byte) (t : State) : Prop := exec (.bodyCharacter l
      [true, false, c.getLsbD 0, c.getLsbD 1, c.getLsbD 2, c.getLsbD 3, c.getLsbD 4, c.getLsbD 5, c.getLsbD 6, c.getLsbD 7, true]) s = .next t
    let misframes (t : State) : Prop := ∀ (bits : List Bool) (n : Nat), bits.length = 8 →
      exec (.bodyCharacter l ([true, false] ++ bits ++ [false] ++ List.replicate n false)) s = .next t
    let waits (y : LinePort) : LinePort := { y with rxWait := true }
    let crcErrors : Link := { k with counters := { k.counters with crcErrors := k.counters.crcErrors + 1 } }
    let formatErrors : Link := { k with counters := { k.counters with formatErrors := k.counters.formatErrors + 1 } }
    let discarded (rx : RxState) : LinePort := { x with filling := none, rx }
    let stored (c : Byte) : State :=
      if b.length < 1033 then s.setLine l { x with filling := some (b ++ [c]), rx := .body }
      else (s.setLine l (discarded .hunt)).setLink l formatErrors
    ((s.line l).enabled = false →
      (∀ levels, exec (.bodyCharacter l levels) s = .next s) ∧ exec (.huntDelimiter l) s = .next s ∧ exec (.frameEnd l) s = .next s
      ∧ ∀ c, exec (.frameBodyStart l c) s = .next s)
    ∧ ((s.line l).enabled = true →
      ((s.line l).rxWait = true → ∀ n, exec (.bodyCharacter l (List.replicate n false)) s = .next s)
      ∧ (x.rx = .hunt → exec (.huntDelimiter l) s = .next (s.setLine l { x with rx := .gap }) ∧ takes 0xA5#8 (s.setLine l { x with rx := .gap })
        ∧ misframes (s.setLine l (waits x)) ∧ ∀ c, c ≠ 0xA5#8 → takes c (s.setLine l x))
      ∧ (x.rx = .gap → takes 0xA5#8 (s.setLine l x) ∧ misframes (s.setLine l (waits x)))
      ∧ (x.filling = some b → x.rx = .body →
        misframes ((s.setLine l (waits (discarded .hunt))).setLink l crcErrors)
        ∧ takes 0x5A#8 (s.setLine l { x with rx := .escape })
        ∧ ∀ c, c ≠ 0xA5#8 → c ≠ 0x5A#8 → takes c (stored c))
      ∧ (x.filling = some b → x.rx = .escape →
        misframes ((s.setLine l (waits (discarded .hunt))).setLink l crcErrors)
        ∧ takes 0x85#8 (stored 0xA5#8)
        ∧ takes 0x7A#8 (stored 0x5A#8)
        ∧ takes 0xA5#8 ((s.setLine l (discarded .gap)).setLink l formatErrors)
        ∧ ∀ c, c ≠ 0xA5#8 → c ≠ 0x85#8 → c ≠ 0x7A#8 → takes c ((s.setLine l (discarded .hunt)).setLink l formatErrors)))

/-! ## The transmitter and line-ready -/

/-- What LTXDn carries, and TRANSMIT_COMPLETE and TRUNCATION_COMPLETE. A disabled port holds LTXDn at the marking level (R137), an
enabled one sends idle fill while its buffer is free and otherwise the characters of its frame: the two delimiters with the escaped
body between them (R140), or, for a frame cut off by a teardown, the characters begun until then and one H'A5 (R141); each is a start bit, eight data bits with the least
significant first, and a stop bit (R138). When a
transmission ends the transmit buffer becomes free, a completed frame is counted as sent and a truncated one is not (R140, R141, R49),
and the arbiter takes the next frame if one can be taken (R73). That the teardown decides which of the two commands can come, the other
being refused, and that a frame that is not cut off may complete at any time, is the model's choice (log entry 10). -/
def Obligations.TransmissionEnds : Prop :=
  (∀ (s : State) (l : LinkId) (t : TxSlot), (s.line l).tx = some t →
    let freed := s.setLine l { s.line l with tx := none }
    (t.cut = none →
      exec (.transmitComplete l) s = .next (freed.setLink l
        { s.link l with counters := { (s.link l).counters with framesSent := (s.link l).counters.framesSent + 1 } }).settle
      ∧ exec (.truncationComplete l) s = .refused .nothingToComplete)
    ∧ (t.cut ≠ none →
      exec (.truncationComplete l) s = .next freed.settle ∧ exec (.transmitComplete l) s = .refused .nothingToComplete))
  ∧ ∀ x : LinePort,
    (x.enabled = false → x.output = .marking)
    ∧ (x.enabled = true → x.tx = none → x.output = .idleFill)
    ∧ (∀ t, x.enabled = true → x.tx = some t → ∃ chars : List Byte, x.output = .frame (chars.take t.begun) (chars.drop t.begun)
      ∧ (t.cut = none → chars = t.frame.lineChars) ∧ ∀ n, t.cut = some n → chars = t.frame.lineChars.take n ++ [0xA5#8])
    ∧ (let levels (c : Byte) : List Bool :=
        [false, c.getLsbD 0, c.getLsbD 1, c.getLsbD 2, c.getLsbD 3, c.getLsbD 4, c.getLsbD 5, c.getLsbD 6, c.getLsbD 7, true]
      LineOutput.marking.levels = [true] ∧ LineOutput.idleFill.levels = levels 0xA5#8
        ∧ ∀ begun c rest, (LineOutput.frame begun (c :: rest)).levels = levels c)

/-- LINE_READY_ASSERTED and LINE_READY_DEASSERTED: an enabled port keeps its last sample; a sample that finds line-ready deasserted
when it was asserted is reported, and no other sample is (R147). The report acts by the state of the link (R43): in STARTING it
enters FAILED(LINE-LOST), in UP it tears the link down first, in STOPPING it completes the stop, and elsewhere it does nothing. A
disabled port does not sample (R137). The level of LRDYn is held as the command shows it, enabled or not (log entry 15). -/
def Obligations.LineReadySamples : Prop :=
  ∀ (s : State) (l : LinkId),
    let x := s.line l
    let kept (v : Bool) : State := s.setLine l { x with lrdy := v, lineReady := some v }
    (x.enabled = true → exec (.lineReadyAsserted l) s = .next (kept true))
    ∧ (x.enabled = false → exec (.lineReadyAsserted l) s = .next (s.setLine l { x with lrdy := true })
      ∧ exec (.lineReadyDeasserted l) s = .next (s.setLine l { x with lrdy := false }))
    ∧ (x.enabled = true → x.lineReady ≠ some true → exec (.lineReadyDeasserted l) s = .next (kept false))
    ∧ (x.enabled = true → x.lineReady = some true →
        let k := s.link l
        let act (t : State) : Prop := exec (.lineReadyDeasserted l) s = .next t.settle
        (k.state = .starting → act ((kept false).fell l .failed .lineLost { k.owedLink with opn := false }))
        ∧ (k.state = .up → act (((kept false).teardown l .lineLost).fell l .failed .lineLost { k.owedLink with opn := false }))
        ∧ (k.state = .stopping → act ((kept false).fell l .down .lineLost { k.owedLink with close := false }))
        ∧ (k.state = .down ∨ k.state = .listening ∨ k.state = .failed → act (kept false)))

/-! ## Transactions -/

/-- CHIP_SELECT_FALLS and TRANSACTION_CODE (R150, R151). When chip select falls the port goes from IDLE to CODE with the value of the
status byte fixed: bit 7 ATT, bit 6 EVT, bit 5 DROP, bit 4 OVF and the number of responses, which is 0 to 8, in bits 3..0; in RESET
the transaction is ignored whole (R161). The complete code byte leads to the state of Table 9-2, the fixed status byte is returned,
and DROP is cleared exactly when that byte carried DROP = 1. A transaction that ends before its code byte is complete leaves DROP, and
a post after the fall does not change the fixed value. A STATUS transaction fixes the event count (R152), and a read chooses the head
of its queue, or nothing (R157, R163). -/
def Obligations.StatusByteIsFixedAndReturned : Prop :=
  ∀ (s : State) (p : Slot),
    let x := s.port p
    (s.resetLow = false → x.csLow = false → x.session = .reset →
      exec (.chipSelectFalls p) s = .next (s.setPort p { x with csLow := true, txn := .ignore, hso := [] }))
    ∧ (s.resetLow = false → x.csLow = false → x.session ≠ .reset → x.responses.length ≤ 8 →
      ∃ b : Byte, exec (.chipSelectFalls p) s = .next (s.setPort p { x with csLow := true, txn := .code b, hso := [] })
        ∧ (b.getLsbD 7 = true ↔ x.session = .attached)
        ∧ (b.getLsbD 6 = true ↔ x.events ≠ [])
        ∧ (b.getLsbD 5 = true ↔ x.drop = true)
        ∧ (b.getLsbD 4 = true ↔ ∃ e ∈ x.events, e.kind = .overflow)
        ∧ b.toNat % 16 = x.responses.length)
    ∧ (∀ b, s.portLive p = true → x.csLow = true → x.txn = .code b →
      (∀ code, ∃ t : Txn,
        exec (.transactionCode p code) s = .next (s.setPort p { x with
          txn := t, drop := x.drop && !b.getLsbD 5, hso := x.hso ++ [b] })
        ∧ (code = 0x01#8 → t = .statusTail x.events.length)
        ∧ (code = 0x02#8 → t = .writeHeader)
        ∧ (code = 0x03#8 → t = .readResponse x.responses.head?)
        ∧ (code = 0x04#8 → t = .readEvent x.events.head? 0)
        ∧ (4 < code.toNat ∨ code = 0x00#8 → t = .ignore))
      ∧ (∀ n, exec (.ignoredTransactionEnd p n) s = .next (s.setPort p { x with csLow := false, txn := .idle }))
      ∧ ∀ e, (x.post e).txn = .code b)

/-- STATUS_TRANSACTION and IGNORED_TRANSACTION_END: chip select rises and the port returns to IDLE with nothing else changed (R150). In
STATUS-TAIL the first of the bytes clocked after the code byte is the event count and every later one is H'00 (R152); in IGNORE every
byte is H'00; in CODE no byte is complete, and in WRITE-HEADER at most three are; in RESET HSOn is undriven (R161). -/
def Obligations.StatusAndIgnoredTransactionsEnd : Prop :=
  ∀ (s : State) (p : Slot) (clocked : Nat), (s.port p).csLow = true →
    let ended (bytes : List Byte) : State := s.setPort p { s.port p with csLow := false, txn := .idle, hso := (s.port p).hso ++ bytes }
    (s.portLive p = true → ∀ n, (s.port p).txn = .statusTail n →
      (clocked = 0 → exec (.statusTransaction p clocked) s = .next (ended []))
      ∧ (0 < clocked → exec (.statusTransaction p clocked) s = .next (ended (byteOf n :: List.replicate (clocked - 1) 0#8))))
    ∧ (s.portLive p = true → (s.port p).txn = .ignore →
      exec (.ignoredTransactionEnd p clocked) s = .next (ended (List.replicate clocked 0#8)))
    ∧ (s.portLive p = true → ∀ b, (s.port p).txn = .code b → exec (.ignoredTransactionEnd p clocked) s = .next (ended []))
    ∧ (s.portLive p = true → (s.port p).txn = .writeHeader → clocked ≤ 3 →
      exec (.ignoredTransactionEnd p clocked) s = .next (ended (List.replicate clocked 0#8)))
    ∧ (s.portLive p = false → exec (.ignoredTransactionEnd p clocked) s = .next (ended []))

/-- WRITE_REQUEST_HEADER: the declared length is read from the last two header bytes, high byte first (R166). With 8 responses waiting the request is dropped: DROP is set, the port enters IGNORE, and no staging claim is
made (R153). Otherwise the port enters WRITE-BODY, and the header of a SEND on an attached port with a declared length of 4..1027
makes the staging claim for ceil(P/64) blocks, P the declared length less 3 (R108): refused QUOTA when the slot's usage would exceed
192, refused NO-BUFFER when the blocks exceed free-unreserved, and otherwise granted, the blocks passing from FREE to the slot (R92).
Any other header makes no claim. -/
def Obligations.HeaderDropsOrStages : Prop :=
  ∀ (s : State) (p : Slot) (tag code high low : Byte),
    s.portLive p = true → (s.port p).csLow = true → (s.port p).txn = .writeHeader →
    let x := s.port p
    let len := high.toNat * 256 + low.toNat
    let blocks := (len - 3 + 63) / 64
    let run := exec (.writeRequestHeader p tag code (high, low)) s
    let body (st : Staging) : HostPort := { x with txn := .writeBody { tag, code, len := BitVec.ofNat 16 len } st, hso := x.hso ++ [0#8, 0#8, 0#8, 0#8] }
    let claims := code = 0x30#8 ∧ x.session = .attached ∧ 4 ≤ len ∧ len ≤ 1027
    (8 ≤ x.responses.length →
      run = .next (s.setPort p { x with drop := true, txn := .ignore, hso := x.hso ++ [0#8, 0#8, 0#8, 0#8] }))
    ∧ (x.responses.length < 8 → ¬ claims → run = .next (s.setPort p (body .none)))
    ∧ (x.responses.length < 8 → claims → 192 < s.pool.usage[p] + blocks → run = .next (s.setPort p (body (.refused .quota))))
    ∧ (x.responses.length < 8 → claims → s.pool.usage[p] + blocks ≤ 192 → s.pool.free - s.pool.reserved < blocks →
      run = .next (s.setPort p (body (.refused .noBuffer))))
    ∧ (x.responses.length < 8 → claims → s.pool.usage[p] + blocks ≤ 192 → blocks ≤ s.pool.free - s.pool.reserved →
      run = .next ((s.setPool { s.pool with
        free := s.pool.free - blocks, usage := s.pool.usage.set p (s.pool.usage[p] + blocks) }).setPort p
          (body (.granted (len - 3)))))

/-- READ_RESPONSE: the bytes returned are the request tag, the command code, the result, the body length in two bytes, the body (with
the payload of a RECV message), then H'00 (R157, R168). A read that clocks them all removes the response from the head, frees the
message it carries and serves the credit-owed list (R94, R101); a shorter read removes nothing (R118); with nothing chosen every
byte is H'00. -/
def Obligations.ResponseReadToItsEndIsRemoved : Prop :=
  ∀ (s : State) (p : Slot) (clocked : Nat), s.portLive p = true → (s.port p).csLow = true →
    ((s.port p).txn = .readResponse none →
      exec (.readResponse p clocked) s = .next (s.setPort p { s.port p with
        csLow := false, txn := .idle, hso := (s.port p).hso ++ List.replicate clocked 0#8 }).settle)
    ∧ ∀ (r : Response) (rest : List Response), (s.port p).responses = r :: rest → (s.port p).txn = .readResponse (some r) →
    let payload := match r.msg with | some m => m.payload | none => []
    let bytes := [r.tag, r.code, byteOf r.result.code, byteOf ((r.body ++ payload).length / 256), byteOf (r.body ++ payload).length]
      ++ (r.body ++ payload)
    let returned := (bytes ++ List.replicate clocked 0#8).take clocked
    let ended (u : State) (rs : List Response) : State :=
      u.setPort p { u.port p with responses := rs, csLow := false, txn := .idle, hso := (u.port p).hso ++ returned }
    (clocked < bytes.length → exec (.readResponse p clocked) s = .next (ended s (r :: rest)).settle)
    ∧ (bytes.length ≤ clocked → r.msg = none → exec (.readResponse p clocked) s = .next (ended s rest).settle)
    ∧ (bytes.length ≤ clocked → ∀ m, r.msg = some m →
      let freed := s.setPool { s.pool with
        free := s.pool.free + blocksOf m.payload.length, rx := s.pool.rx - blocksOf m.payload.length }
      exec (.readResponse p clocked) s = .next (ended freed.serve rest).settle)

/-- READ_EVENT: the six bytes of the chosen record, then H'00, are returned; a complete read removes the record from the head and a
shorter read removes nothing (R163). When the chosen record is OVERFLOW and posts were counted into it during the read, the record
stays, with arg equal to the number counted. With nothing chosen every byte is H'00. -/
def Obligations.EventReadToItsEndIsRemoved : Prop :=
  ∀ (s : State) (p : Slot) (clocked : Nat), s.portLive p = true → (s.port p).csLow = true →
    let x := s.port p
    let ended (es : List Event) (bytes : List Byte) : State :=
      s.setPort p { x with events := es, csLow := false, txn := .idle, hso := x.hso ++ (bytes ++ List.replicate clocked 0#8).take clocked }
    (∀ n, x.txn = .readEvent none n → exec (.readEvent p clocked) s = .next (ended x.events []))
    ∧ (∀ (e : Event) (n : Nat), x.txn = .readEvent (some e) n →
      let bytes := [byteOf e.kind.code, byteOf e.link.val, byteOf e.channel.val, reasonByte e.reason, byteOf (e.arg / 256), byteOf e.arg]
      (clocked < 6 → exec (.readEvent p clocked) s = .next (ended x.events bytes))
      ∧ (6 ≤ clocked → (e.kind ≠ .overflow ∨ n = 0) → exec (.readEvent p clocked) s = .next (ended x.events.tail bytes))
      ∧ (6 ≤ clocked → e.kind = .overflow → n ≠ 0 → x.events.length = 1 →
        exec (.readEvent p clocked) s = .next
          (ended [{ kind := .overflow, link := 0, channel := 0, reason := none, arg := n }] bytes)))

/-! ## Resets -/

/-- HOST_PORT_RESET and HOST_PORT_RESET_RELEASE: on the assertion of HRSTn the transaction is abandoned and a staged message freed, an
attached port's session ends as by DETACH, the response queue is emptied and its RECV messages freed, DROP is cleared, and the port is
in RESET (R160); the events of the port are gone. On the deassertion the port is DETACHED with both queues empty and DROP clear, and
IGNORE if chip select is low (R161). -/
def Obligations.PortResetClearsThePort : Prop :=
  ∀ (s : State) (p : Slot), s.resetLow = false →
    let freed (u : State) : State := (u.freeRxMsgs (heldMsgs (s.port p).responses)).serve
    let cleared (u : State) (session : Session) (low : Bool) (hso : List Byte) : State := u.setPort p
      { session, responses := [], events := [], drop := false, txn := if (s.port p).csLow then .ignore else .idle,
        csLow := (s.port p).csLow, hrstLow := low, hso }
    ((s.port p).session = .attached →
      exec (.hostPortReset p) s = .next (cleared (freed ((s.freeStaged p (s.port p).txn.staging).endSession p)) .reset true []).settle)
    ∧ ((s.port p).session ≠ .attached →
      exec (.hostPortReset p) s = .next (cleared (freed (s.freeStaged p (s.port p).txn.staging)) .reset true []).settle)
    ∧ ((s.port p).hrstLow = true →
      exec (.hostPortResetRelease p) s = .next (cleared s .detached false (s.port p).hso))

/-- DEVICE_RESET and DEVICE_RESET_RELEASE: whatever the state, every block goes to its state after device reset (R2, R27, R104, R137,
R149), and the levels of the input pins stay; when RESET is deasserted each port is RESET or DETACHED by its HRSTn, and IGNORE or IDLE
by its chip select, and nothing else changes (R169). The queue of commands and the counter of free values are the model's own (log
entry 21). -/
def Obligations.DeviceResetSetsEveryBlock : Prop :=
  ∀ s : State,
    (∃ t, exec .deviceReset s = .next t ∧ t.resetLow = true ∧ t.chans = Vector.replicate 32 {} ∧ t.pool = {}
      ∧ t.links = Vector.replicate 2 {}
      ∧ (∀ l, t.line l = { enabled := false, rx := .stopped, filling := none, held := [], tx := none, lineReady := none, lrdy := (s.line l).lrdy })
      ∧ (∀ p, t.port p = { csLow := (s.port p).csLow, hrstLow := (s.port p).hrstLow })
      ∧ t.pending = s.pending ∧ t.freeCount = s.freeCount)
    ∧ (s.resetLow = true → ∃ t, exec .deviceResetRelease s = .next t ∧ t.resetLow = false
      ∧ (∀ p, t.port p = { s.port p with
          session := if (s.port p).hrstLow then .reset else .detached, txn := if (s.port p).csLow then .ignore else .idle })
      ∧ t.chans = s.chans ∧ t.pool = s.pool ∧ t.links = s.links ∧ t.lines = s.lines ∧ t.pending = s.pending
      ∧ t.freeCount = s.freeCount)

/-! ## Host requests -/

/-- Every request row, UNKNOWN_COMMAND among them: the common checks in order (R155). LENGTH when the bytes that arrived differ from the
declared length, or a known command does not accept that length (Table 9-3); then UNKNOWN; then NOT-ATTACHED on a DETACHED port for any
command but ATTACH. The response has an empty body and nothing else changes, but that a staged message of slot p is freed and the
credit-owed list served (R93, R109). -/
def Obligations.CommonChecksRefuse : Prop :=
  ∀ (s : State) (p : Slot) (h : ReqHeader) (st : Staging) (body : List Byte), s.Writing p h st →
    let refused (r : Result) : Prop :=
      exec (requestOf h.code p body) s = .next (((s.unstaged p st).reply p h { result := r } body.length).concluded h.code)
    (body.length ≠ h.len.toNat → refused .length)
    ∧ (∀ f, acceptedLengths h.code = some f → f h.len.toNat = false → refused .length)
    ∧ (body.length = h.len.toNat → acceptedLengths h.code = none → refused .unknown)
    ∧ (∀ f, body.length = h.len.toNat → acceptedLengths h.code = some f → f h.len.toNat = true →
        (s.port p).session = .detached → h.code ≠ 0x01#8 → refused .notAttached)

/-- Every known command: the first of its own checks that fails gives the result (the lists of `State.checks`, from the rules of the
commands), the response has an empty body, and nothing else changes, but that the staged message of a refused SEND is freed and the
credit-owed list served (R109). -/
def Obligations.CommandChecksRefuse : Prop :=
  ∀ (s : State) (p : Slot) (h : ReqHeader) (st : Staging) (body : List Byte) (f : Nat → Bool) (r : Result),
    s.Writing p h st → body.length = h.len.toNat → acceptedLengths h.code = some f → f h.len.toNat = true →
    (h.code ≠ 0x01#8 → (s.port p).session = .attached) → st ≠ .refused .ok → firstFailing (s.checks p h.code body st) = some r →
    let u : State := if h.code = 0x30#8 then s.unstaged p st else s
    exec (requestOf h.code p body) s = .next ((u.reply p h { result := r } body.length).concluded h.code)

/-- ATTACH on a DETACHED port: the session is ATTACHED, and the response carries the slot, revision 1, 1024 pool blocks, quota 192, 32
channels and 2 links (R158). Nothing else changes. -/
def Obligations.AttachOpensASession : Prop :=
  ∀ (s : State) (p : Slot) (h : ReqHeader) (st : Staging), s.Writing p h st → h.code = 0x01#8 → h.len = 0 →
    (s.port p).session = .detached →
    exec (.attach p []) s = .next ((s.setPort p { s.port p with session := .attached }).reply p h
      { result := .ok, body := [byteOf p.val, 1#8, 4#8, 0#8, 0#8, 192#8, 32#8, 2#8] } 0)

/-- DETACH on an ATTACHED port (R159): every record of the slot is given up by R135; every link whose controller is the slot becomes
VACANT, and LINK-VACANT is posted to the other ports for each of them not in DOWN (R34), of link 0 first (the model's choice, log entry
24); the event queue is emptied; the session becomes DETACHED; the response is posted after that. The records are given up one after
another in ascending order of id; grants go to records on the credit-owed list alone, in its order (R100, R101). Of the
retransmission lists the notify flags of the aborted records alone are cleared (R114), and the messages of the given-up queues are
freed (R93, R94). Then an idle transmitter may take a frame (R73). -/
def Obligations.DetachEndsTheSession : Prop :=
  ∀ (s : State) (p : Slot) (h : ReqHeader) (st : Staging), s.Requests p 0x02#8 [] h st →
    ∃ t : State, exec (.detach p []) s = .next t.settle
      ∧ t.port p = { s.port p with events := [], session := .detached }.answered h { result := .ok } 0
      ∧ (∀ q, q ≠ p →
          let vacant (l : LinkId) (x : HostPort) : HostPort :=
            if (s.link l).controller = some p ∧ (s.link l).state ≠ .down then
              x.post { kind := .linkVacant, link := l, channel := 0, reason := none, arg := 0 } else x
          t.port q = vacant 1 (vacant 0 (s.port q)))
      ∧ (∀ i, s.Owns p i → t.chan i = (s.chan i).givenUp)
      ∧ (∀ i, ¬ s.Owns p i → (t.chan i).grantedFrom (s.chan i) ∧ (i ∉ s.pool.creditOwed → t.chan i = s.chan i))
      ∧ (s.RecordsOk → s.PoolOk →
        s.ServedInTurn t (s.pool.creditOwed.filter fun i => decide ((s.chan i).state = .free ∨ (s.chan i).owner ≠ p)))
      ∧ (let given := allChans.foldl (fun u i => if u.Owns p i then u.giveUp i else u) s
        t.chans = given.chans ∧ t.pool = given.pool ∧ ∀ l, (t.link l).ready = (given.link l).ready)
      ∧ (∀ l, t.link l = { s.link l with
          controller := if (s.link l).controller = some p then none else (s.link l).controller
          rtx := (s.link l).rtx.map fun e => match e.body with
            | .data m =>
              if s.Owns p m.channel ∧ (s.chan m.channel).link = l ∧ (s.chan m.channel).state ≠ .aborting
                  ∧ (s.chan m.channel).givenUp.state = .aborting then
                { e with body := .data { m with notify := false } } else e
            | .ctl _ => e
          ready := (t.link l).ready })
      ∧ (let aborts (i : ChanId) : Prop := s.Owns p i ∧ ((s.chan i).state = .opening ∧ (s.chan i).owed.opn = false
            ∨ (s.chan i).state = .opened ∨ (s.chan i).state = .closing)
        let tx := allChans.flatMap fun i => if aborts i then (s.chan i).sendQ else []
        let rx := (allChans.map fun i =>
          if aborts i ∨ s.Owns p i ∧ (s.chan i).state = .ended then heldBlocks (s.chan i).recvQ else 0).sum
        t.pool.free = s.pool.free + (tx.map fun m => (m.payload.length + 63) / 64).sum + rx
          ∧ (∀ n : Slot, t.pool.usage[n] = s.pool.usage[n] - chargedBlocks n tx)
          ∧ t.pool.rx = s.pool.rx - rx
          ∧ ∀ i, aborts i → i ∉ t.pool.creditOwed)
      ∧ t.lines = s.lines ∧ t.resetLow = s.resetLow ∧ t.freeCount = s.freeCount ∧ t.pending = s.pending

/-- LINK-QUERY, CH-QUERY and POOL-QUERY answer with the bytes of Tables 10-10, 10-11 and 10-13 and change nothing (R33, R25, R103). A
field that is absent reads 0, a VACANT controller and a remote id of ANY read H'FF. -/
def Obligations.QueriesAnswer : Prop :=
  ∀ (s : State) (p : Slot) (h : ReqHeader) (st : Staging) (b : Byte) (l : LinkId) (i : ChanId),
    let n8 (n : Nat) : List Byte := [BitVec.ofNat 8 n]
    let n16 (n : Nat) : List Byte := [BitVec.ofNat 8 (n / 256), BitVec.ofNat 8 n]
    let f (b : Bool) (w : Nat) : Nat := if b then w else 0
    let k := s.link l
    let c := s.chan i
    let par (g : Params → Nat) : Nat := match k.params with | some q => g q | none => 0
    let up (n : Nat) : List Byte := n8 (if k.state = .up then n else 0)
    let inSet (states : List ChState) (n : Nat) : List Byte := n8 (if c.state ∈ states then n else 0)
    (s.Requests p 0x13#8 [b] h st → b.toNat = l.val →
      exec (.linkQuery p [b]) s = .next (s.reply p h {
        result := .ok
        body := n8 l.val
        ++ n8 (match k.state with | .down => 0 | .listening => 1 | .starting => 2 | .up => 3 | .stopping => 4 | .failed => 5)
        ++ n8 (match k.controller with | some q => q.val | none => 255)
        ++ n8 (par fun q => match q.mode with | .active => 0 | .passive => 1) ++ n8 (par Params.windowOffer) ++ n8 (par Params.rateCode)
        ++ n8 (par Params.tAck) ++ n16 (par Params.tResp) ++ n16 (par Params.tIdle) ++ n8 (par Params.nRetry)
        ++ n8 k.ownEpoch.toNat ++ n8 (match k.peerEpoch with | some e => e.toNat | none => 0)
        ++ n8 (match k.agreed with | some a => a | none => 0)
        ++ up k.vs.toNat ++ up k.va.toNat ++ up k.vr.toNat ++ up k.rtx.length ++ up k.ready.length ++ up k.answers.length
        ++ n8 (if k.state ∈ [.starting, .up, .stopping] then k.retry else 0)
        ++ up (f k.pollOutstanding 1 + f k.goBack.isSome 2)
        ++ n8 (f k.owedLink.closed 1 + f k.owedLink.close 2 + f k.owedLink.accept 4 + f k.owedLink.opn 8)
        ++ n8 (match k.lastReason with | some r => r.code | none => 0)
        ++ n16 k.counters.framesSent.toNat ++ n16 k.counters.goodFrames.toNat ++ n16 k.counters.retransmissions.toNat
        ++ n16 k.counters.crcErrors.toNat ++ n16 k.counters.formatErrors.toNat ++ n16 k.counters.overruns.toNat
        ++ n16 k.counters.outOfSequence.toNat ++ n16 k.counters.stray.toNat ++ n16 k.counters.violations.toNat } 1))
    ∧ (s.Requests p 0x24#8 [b] h st → b.toNat = i.val →
      exec (.chQuery p [b]) s = .next (s.reply p h {
        result := .ok
        body := n8 i.val
        ++ n8 (match c.state with
            | .free => 0 | .listen => 1 | .opening => 2 | .opened => 3 | .closing => 4 | .ended => 5 | .aborting => 6)
        ++ n8 (if c.state = .free then 0 else c.owner.val) ++ n8 (if c.state = .free then 0 else c.link.val)
        ++ n8 (if c.state = .free then 0 else match c.remote with | some r => r.val | none => 255)
        ++ n8 (if c.state = .free then 0 else match c.cls with | .normal => 0 | .urgent => 1)
        ++ n8 (if c.state = .free then 0 else c.rxWindow)
        ++ inSet [.opened, .closing] c.peerWindow ++ inSet [.opened, .closing] c.txLimit.toNat ++ inSet [.opened, .closing] c.txUsed.toNat
        ++ inSet [.opening, .opened, .closing] c.rxGranted.toNat ++ inSet [.opening, .opened, .closing] c.rxConsumed.toNat
        ++ n8 (if c.state = .free then 0 else c.rxHeld) ++ inSet [.opened, .closing] c.sendQ.length
        ++ inSet [.listen, .opening, .opened, .closing, .ended] c.recvQ.length
        ++ n8 (if c.state = .free then 0 else f c.owed.opn 1 + f c.owed.accept 2 + f c.owed.credit 4 + f c.owed.close.isSome 8
            + f (c.owed.close = some true) 16)
        ++ inSet [.closing, .aborting] (f c.closeSent 1)
        ++ inSet [.ended] (match c.endReason with | some r => r.code | none => 0) ++ inSet [.listen] c.refusedAttempts } 1))
    ∧ (s.Requests p 0x40#8 [] h st →
      exec (.poolQuery p []) s = .next (s.reply p h {
        result := .ok
        body := n16 1024 ++ n16 s.pool.free ++ n16 (s.pool.usage[0] + s.pool.usage[1] + s.pool.usage[2]) ++ n16 s.pool.rx
        ++ n16 s.pool.reserved ++ n16 (s.pool.free - s.pool.reserved)
        ++ n8 s.pool.usage[0] ++ n8 s.pool.usage[1] ++ n8 s.pool.usage[2] ++ n8 192 ++ n8 s.pool.creditOwed.length
        ++ s.pool.creditOwed.map fun j => BitVec.ofNat 8 j.val } 0))

/-- LINK-START taken (R28, R30): in DOWN from any attached host, in FAILED from the controller or with a VACANT one. Parameters, short
form at the defaults of Table 2-3 or full form; the own epoch advances past 0 (R29); the issuer is the controller; a disabled line port
is enabled with its receiver in HUNT (R137), and the rate code is handed over, which a character in progress does not take (R138); ACTIVE enters STARTING with LINK-OPEN owed and T_resp
started, PASSIVE enters LISTENING. The response is the new own epoch. -/
def Obligations.LinkStartBeginsASession : Prop :=
  ∀ (s : State) (p : Slot) (h : ReqHeader) (st : Staging) (body : List Byte) (l : LinkId) (q : Params),
    s.Requests p 0x10#8 body h st →
    (body = [byteOf l.val, match q.mode with | .active => 0#8 | .passive => 1#8]
        ∧ q = { mode := q.mode, windowOffer := 8, rateCode := 7, tAck := 20, tResp := 200, tIdle := 5000, nRetry := 5 }
      ∨ body = [byteOf l.val, match q.mode with | .active => 0#8 | .passive => 1#8, byteOf q.windowOffer, byteOf q.rateCode,
          byteOf q.tAck, byteOf (q.tResp / 256), byteOf q.tResp, byteOf (q.tIdle / 256), byteOf q.tIdle, byteOf q.nRetry]
        ∧ 1 ≤ q.windowOffer ∧ q.windowOffer ≤ 16 ∧ q.rateCode ≤ 7 ∧ 1 ≤ q.tAck ∧ q.tAck ≤ 255 ∧ 10 ≤ q.tResp ∧ q.tResp ≤ 10000
        ∧ (q.tIdle = 0 ∨ 100 ≤ q.tIdle) ∧ q.tIdle ≤ 60000 ∧ 1 ≤ q.nRetry ∧ q.nRetry ≤ 15) →
    ((s.link l).state = .down ∨ (s.link l).state = .failed ∧ ((s.link l).controller = none ∨ (s.link l).controller = some p)) →
    let k := s.link l
    let x := s.line l
    let e : Byte := if k.ownEpoch = 255#8 then 1#8 else k.ownEpoch + 1#8
    let started : Link := match q.mode with
      | .active => { k with
          params := some q, ownEpoch := e, controller := some p, state := .starting, retry := 0, vs := 0, va := 0, vr := 0,
          tResp := some q.tResp, owedLink := { k.owedLink with opn := true } }
      | .passive => { k with
          params := some q, ownEpoch := e, controller := some p, state := .listening, retry := 0,
          tAck := none, tResp := none, tIdle := none }
    let port : LinePort := if x.enabled then { x with rate := some q.rateCode }
      else { enabled := true, rate := some q.rateCode, charRate := some q.rateCode, rx := .hunt, rxWait := false, filling := none, held := [],
              tx := none, phase := 0, lrdy := x.lrdy, lineReady := none }
    exec (.linkStart p body) s =
      .next (((s.setLink l started).setLine l port).reply p h { result := .ok, body := [e] } body.length).settle

/-- LINK-STOP taken from the controller (R31). LISTENING, STARTING and FAILED go to DOWN at once with LINK-DOWN(STOPPED), STARTING
dropping its owed LINK-OPEN; UP is torn down with STOPPED, owes LINK-CLOSE, starts T_resp and enters STOPPING. -/
def Obligations.LinkStopEndsTheSession : Prop :=
  ∀ (s : State) (p : Slot) (h : ReqHeader) (st : Staging) (b : Byte) (l : LinkId),
    s.Requests p 0x11#8 [b] h st → b.toNat = l.val → (s.link l).controller = some p →
    let k := s.link l
    let ok (t : State) : Prop := exec (.linkStop p [b]) s = .next (t.reply p h { result := .ok } 1).settle
    (k.state = .listening ∨ k.state = .failed → ok (s.fell l .down .stopped k.owedLink))
    ∧ (k.state = .starting → ok (s.fell l .down .stopped { k.owedLink with opn := false }))
    ∧ (k.state = .up →
      let t := s.teardown l .stopped
      ok (t.setLink l { t.link l with
        state := .stopping, vs := 0, va := 0, vr := 0, retry := 0, tResp := some (t.link l).par.tResp,
        owedLink := { (t.link l).owedLink with close := true } }))

/-- LINK-CLAIM: refused BAD-ARG for a link above 1, BAD-STATE in DOWN and NOT-CONTROLLER when another slot is the controller; otherwise
the issuer is the controller and the response is OK with an empty body. Nothing but the controller field changes (R32). -/
def Obligations.LinkClaimTakesAVacantRole : Prop :=
  ∀ (s : State) (p : Slot) (h : ReqHeader) (st : Staging) (b : Byte), s.Requests p 0x12#8 [b] h st →
    let run := exec (.linkClaim p [b]) s
    let answer (t : State) (r : Result) : Host.Outcome State Fault Refusal := .next (t.reply p h { result := r } 1)
    (1 < b.toNat → run = answer s .badArg)
    ∧ ∀ l : LinkId, b.toNat = l.val →
      ((s.link l).state = .down → run = answer s .badState)
      ∧ ((s.link l).state ≠ .down → (s.link l).controller = none → run = answer (s.setLink l { s.link l with controller := some p }) .ok)
      ∧ ((s.link l).state ≠ .down → (s.link l).controller = some p → run = answer s .ok)
      ∧ (∀ q, q ≠ p → (s.link l).state ≠ .down → (s.link l).controller = some q → run = answer s .notController)

/-- CH-LISTEN and CH-OPEN taken (R5 to R8). CH-LISTEN puts the FREE record that the local id resolves to into LISTEN, and claims nothing.
CH-OPEN, on a link that is UP and with the rx window in free-unreserved blocks, reserves them (R95) and puts it into OPENING, with rx
granted the rx window and OPEN owed, at the tail of the control-ready list (R24). The response is the id. -/
def Obligations.ListenAndOpenTakeARecord : Prop :=
  ∀ (s : State) (p : Slot) (h : ReqHeader) (st : Staging) (a bl br bw bc : Byte) (l : LinkId) (i : ChanId) (remote : Option ChanId),
    bl.toNat = l.val → s.Resolves a i → 1 ≤ bw.toNat → bw.toNat ≤ 64 → (bc = 0#8 ∨ bc = 1#8) →
    (match remote with | some j => br.toNat = j.val | none => br = 0xFF#8) →
    let cls : ChClass := if bc = 0#8 then .normal else .urgent
    let reply : Reply := { result := .ok, body := [byteOf i.val] }
    (s.Requests p 0x20#8 [a, bl, br, bw, bc] h st →
      exec (.chListen p [a, bl, br, bw, bc]) s = .next ((s.setChan i
        { state := .listen, owner := p, link := l, remote, cls, rxWindow := bw.toNat, rxHeld := 0, recvQ := [], owed := {},
          refusedAttempts := 0 }).reply p h reply 5))
    ∧ (s.Requests p 0x21#8 [a, bl, br, bw, bc] h st → remote ≠ none → (s.link l).state = .up →
        bw.toNat ≤ s.pool.free - s.pool.reserved →
      exec (.chOpen p [a, bl, br, bw, bc]) s = .next ((((s.setChan i
        { state := .opening, owner := p, link := l, remote, cls, rxWindow := bw.toNat, rxGranted := bw, rxConsumed := 0, rxHeld := 0,
          recvQ := [], owed := { opn := true } }).setPool { s.pool with reserved := s.pool.reserved + bw.toNat }).setLink l
        { s.link l with ready := (s.link l).ready ++ [i] }).reply p h reply 5).settle)

/-- CH-CLOSE taken on an OPEN record of the issuer (R123): CLOSING with close sent no, off the credit-owed list; with an empty send queue
CLOSE is owed at once in place of any CREDIT, and the record joins the control-ready list if it owed nothing; otherwise the owed set
is unchanged. The response is the number of messages in the send queue. -/
def Obligations.ChCloseBeginsTheDrain : Prop :=
  ∀ (s : State) (p : Slot) (h : ReqHeader) (st : Staging) (b : Byte) (i : ChanId),
    s.Requests p 0x22#8 [b] h st → b.toNat = i.val → s.Owns p i → (s.chan i).state = .opened →
    let c := s.chan i
    let k := s.link c.link
    let off := s.setPool { s.pool with creditOwed := s.pool.creditOwed.filter (· != i) }
    let ok (t : State) : Prop :=
      exec (.chClose p [b]) s = .next (t.reply p h { result := .ok, body := [byteOf c.sendQ.length] } 1).settle
    (c.sendQ ≠ [] → ok (off.setChan i { c with state := .closing, closeSent := false }))
    ∧ (c.sendQ = [] →
      ok ((off.setChan i { c with
          state := .closing, closeSent := false, owed := { c.owed with credit := false, close := some false } }).setLink c.link
        { k with ready := if c.owed = {} then k.ready ++ [i] else k.ready }))

/-- CH-RELEASE taken on a record of the issuer, by its state (R127): LISTEN becomes FREE; ENDED becomes FREE and its receive queue is
freed; OPENING with OPEN still owed leaves the control-ready list, its reservation is released and it becomes FREE; any other live
record is aborted (R122; the change is AbortChangesTheRecord's). Freeings and releases serve the credit-owed list. The response counts
the messages of both queues. -/
def Obligations.ChReleaseGivesUpARecord : Prop :=
  ∀ (s : State) (p : Slot) (h : ReqHeader) (st : Staging) (b : Byte) (i : ChanId),
    s.Requests p 0x23#8 [b] h st → b.toNat = i.val → s.Owns p i →
    let c := s.chan i
    let k := s.link c.link
    let ok (t : State) : Prop := exec (.chRelease p [b]) s =
      .next (t.reply p h { result := .ok, body := [byteOf c.sendQ.length, byteOf c.recvQ.length] } 1).settle
    (c.state = .listen → c.owed = {} → ok (s.setChan i {}))
    ∧ (c.state = .ended → c.owed = {} →
      ok (((s.setChan i {}).setPool { s.pool with
        free := s.pool.free + heldBlocks c.recvQ, rx := s.pool.rx - heldBlocks c.recvQ }).serve))
    ∧ (c.state = .opening → c.owed.opn = true →
      ok ((((s.setChan i {}).setLink c.link { k with ready := k.ready.filter (· != i) }).setPool { s.pool with
        reserved := s.pool.reserved - c.outstanding, creditOwed := s.pool.creditOwed.filter (· != i) }).serve))
    ∧ (c.state = .opening ∧ c.owed.opn = false ∨ c.state = .opened ∨ c.state = .closing → ok (s.abortChan i))

/-- SEND taken (R109): when the record is OPEN and the issuer's, the message fits the peer window, the queue holds fewer than 16 messages
and the claim at the header was granted, the staged message receives channel, tag and notify flag and joins the tail of the send queue;
no pool count changes. The response is the number of messages in the queue. -/
def Obligations.SendQueuesItsMessage : Prop :=
  ∀ (s : State) (p : Slot) (h : ReqHeader) (n : Nat) (b tag flags : Byte) (payload : List Byte) (i : ChanId),
    s.Requests p 0x30#8 (b :: tag :: flags :: payload) h (.granted n) → b.toNat = i.val → (flags = 0#8 ∨ flags = 1#8) →
    1 ≤ payload.length → payload.length ≤ 1024 → s.Owns p i → (s.chan i).state = .opened →
    (payload.length + 63) / 64 ≤ (s.chan i).peerWindow → (s.chan i).sendQ.length < 16 →
    exec (.send p (b :: tag :: flags :: payload)) s = .next ((s.setChan i { s.chan i with
        sendQ := (s.chan i).sendQ ++ [{ slot := p, channel := i, tag, notify := decide (flags = 1#8), payload }] }).reply p h
      { result := .ok, body := [byteOf ((s.chan i).sendQ.length + 1)] } (payload.length + 3)).settle

/-- RECV taken (R117): the head message leaves the receive queue, rx held falls by its blocks, and the response holds the message. A
CLOSING or ENDED record computes no grant. For an OPEN record the want is the rx window less rx held and outstanding credit (R100): the
grant g is the smaller of the want and free-unreserved; when g is above 0, rx granted and R rise by it and CREDIT is owed; when g is
below the want, the record joins the credit-owed list unless it is on it. -/
def Obligations.RecvMovesTheHeadMessage : Prop :=
  ∀ (s : State) (p : Slot) (h : ReqHeader) (st : Staging) (b : Byte) (i : ChanId) (m : RxMsg) (rest : List RxMsg),
    s.Requests p 0x31#8 [b] h st → b.toNat = i.val → s.Owns p i → (s.chan i).recvQ = m :: rest →
    let c := s.chan i
    let k := s.link c.link
    let held := c.rxHeld - (m.payload.length + 63) / 64
    let moved : Chan := { c with recvQ := rest, rxHeld := held }
    let want := c.rxWindow - held - (c.rxGranted - c.rxConsumed).toNat
    let g := min want (s.pool.free - s.pool.reserved)
    let granted : Chan := { moved with rxGranted := c.rxGranted + BitVec.ofNat 8 g, owed := { c.owed with credit := true } }
    let list := if g < want ∧ i ∉ s.pool.creditOwed then s.pool.creditOwed ++ [i] else s.pool.creditOwed
    let ok (t : State) : Prop := exec (.recv p [b]) s = .next (t.reply p h
      { result := .ok, msg := some m,
        body := [byteOf i.val, byteOf rest.length, byteOf (m.payload.length / 256), byteOf m.payload.length] } 1).settle
    (c.state = .closing ∨ c.state = .ended → ok (s.setChan i moved))
    ∧ (c.state = .opened → g = 0 → ok ((s.setChan i moved).setPool { s.pool with creditOwed := list }))
    ∧ (c.state = .opened → 0 < g → c.owed.close = none →
      ok (((s.setChan i granted).setPool { s.pool with reserved := s.pool.reserved + g, creditOwed := list }).setLink c.link
        { k with ready := if c.owed = {} then k.ready ++ [i] else k.ready }))

/-! ## Link frames -/

/-- LINK_OPEN, and LINK_ACCEPT in STARTING (R37 to R40). In LISTENING or STARTING a LINK-OPEN brings the link UP with the sender's epoch
and the smaller window offer, owes LINK-ACCEPT and posts LINK-UP to every attached host. In UP a LINK-OPEN with the stored peer
epoch is a duplicate: LINK-ACCEPT is owed, T_idle restarts if it runs (log entry 22), and nothing else changes; any other is a peer
restart: a teardown, entry into UP afresh, LINK-ACCEPT owed, LINK-RESET posted. A LINK-ACCEPT that echoes the own epoch brings a
STARTING link UP; one that does not is discarded. -/
def Obligations.LinkOpenAndAcceptBringTheLinkUp : Prop :=
  ∀ (s : State) (l : LinkId) (sender : Byte) (window : Nat),
    let k := s.link l
    let o := k.owedLink
    let agreed := min k.par.windowOffer window
    let linkUp : Event := { kind := .linkUp, link := l, channel := 0, reason := none, arg := agreed }
    (s.Hears l (.linkOpen sender window) →
      (k.state = .listening ∨ k.state = .starting →
        exec (.linkOpen l) s = .next
          (((s.heard l).setLink l (k.rose sender agreed { o with opn := false, accept := true })).postAll linkUp).settle)
      ∧ (k.state = .up → k.peerEpoch = some sender →
        exec (.linkOpen l) s = .next ((s.heard l).setLink l { k.idled with owedLink := { o with accept := true } }).settle)
      ∧ (k.state = .up → k.peerEpoch ≠ some sender →
        let t := (s.heard l).teardown l .peerRestart
        exec (.linkOpen l) s = .next ((t.setLink l
          { (t.link l).rose sender agreed { o with opn := false, accept := true } with lastReason := some .peerRestart }).postAll
            { kind := .linkReset, link := l, channel := 0, reason := some .peerRestart, arg := 0 }).settle))
    ∧ (∀ echoed, s.Hears l (.linkAccept echoed sender window) → k.state = .starting →
      (echoed = k.ownEpoch →
        exec (.linkAccept l) s = .next (((s.heard l).setLink l (k.rose sender agreed { o with opn := false })).postAll linkUp).settle)
      ∧ (echoed ≠ k.ownEpoch → exec (.linkAccept l) s = .next (s.heard l).settle))

/-- LINK_CLOSE and LINK_CLOSED (R41, R42). A LINK-CLOSE is always answered: LINK-CLOSED is owed. In UP it tears the link down with
PEER-STOPPED, and the link enters DOWN; in STOPPING it completes the stop, LINK-CLOSE being no longer owed; elsewhere the answer is
all. A LINK-CLOSED taken in STOPPING completes the stop. Entering DOWN posts LINK-DOWN to every attached host. -/
def Obligations.LinkCloseAndClosedBringTheLinkDown : Prop :=
  ∀ (s : State) (l : LinkId),
    let k := s.link l
    let o := k.owedLink
    (s.Hears l .linkClose →
      (k.state = .up →
        exec (.linkClose l) s = .next ((((s.heard l).teardown l .peerStopped).fell l .down .peerStopped { o with closed := true }).settle))
      ∧ (k.state = .stopping →
        exec (.linkClose l) s = .next ((s.heard l).fell l .down .stopped { o with closed := true, close := false }).settle)
      ∧ (k.state = .down ∨ k.state = .listening ∨ k.state = .starting ∨ k.state = .failed →
        exec (.linkClose l) s = .next ((s.heard l).setLink l { k with owedLink := { o with closed := true } }).settle))
    ∧ (s.Hears l .linkClosed → k.state = .stopping →
      exec (.linkClosed l) s = .next ((s.heard l).fell l .down .stopped { o with close := false }).settle)

/-- A frame that its link's state does not take is discarded (Table 2-5): LINK-OPEN in DOWN, STOPPING and FAILED, LINK-ACCEPT in all
states but STARTING and UP, LINK-CLOSED in all states but STOPPING and UP, and every frame that carries nr outside UP. It leaves its
receive buffer and changes nothing else. LINK-ACCEPT and LINK-CLOSED in UP restart T_idle if it runs, and change nothing else
(R55, R68). -/
def Obligations.FramesOutsideTheirStatesAreDiscarded : Prop :=
  ∀ (s : State) (l : LinkId) (f : Frame), s.Hears l f →
    let st := (s.link l).state
    let discarded : Prop := exec (f.command l) s = .next (s.heard l).settle
    let idled : Prop := exec (f.command l) s = .next ((s.heard l).setLink l (s.link l).idled).settle
    (f.nr ≠ none → st ≠ .up → discarded)
    ∧ (∀ e w, f = .linkOpen e w → st = .down ∨ st = .stopping ∨ st = .failed → discarded)
    ∧ (∀ a e w, f = .linkAccept a e w → st ≠ .starting → st ≠ .up → discarded)
    ∧ (∀ a e w, f = .linkAccept a e w → st = .up → idled)
    ∧ (f = .linkClosed → st ≠ .stopping → st ≠ .up → discarded)
    ∧ (f = .linkClosed → st = .up → idled)

/-! ## Numbers -/

/-- The checks of nr and ns in UP (R55, R56, R60). A frame of any kind whose nr acknowledges more than has been taken causes a protocol
reset (R45): a teardown with PROTOCOL-ERROR, a new own epoch, STARTING with LINK-OPEN owed and T_resp started, LINK-RESET posted. A
sequenced frame with a valid nr whose ns is not V(r) is discarded after its nr has been processed: the out-of-sequence counter rises,
and RESEND is owed unless one has been asked for since the last accepted frame. -/
def Obligations.NumbersAreChecked : Prop :=
  ∀ (s : State) (l : LinkId) (f : Frame) (nr : Seq), s.Hears l f → f.nr = some nr → (s.link l).state = .up →
    let k := s.link l
    (((k.vs - k.va).toNat < (nr - k.va).toNat) →
      let t := ((s.heard l).setLink l k.idled).teardown l .protocolError
      exec (f.command l) s = .next ((t.setLink l { t.link l with
          state := .starting, ownEpoch := if k.ownEpoch = 255#8 then 1#8 else k.ownEpoch + 1#8, vs := 0, va := 0, vr := 0, retry := 0,
          owedLink := { k.owedLink with opn := true }, tResp := some k.par.tResp, lastReason := some .protocolError }).postAll
        { kind := .linkReset, link := l, channel := 0, reason := some .protocolError, arg := 0 }).settle)
    ∧ (∀ ns dst src c, f = .seq ns nr dst src c → (nr - k.va).toNat ≤ (k.vs - k.va).toNat → ns ≠ k.vr →
      let t := s.afterNr l nr
      let j := t.link l
      exec (f.command l) s = .next (t.setLink l { j with
        counters := { j.counters with outOfSequence := j.counters.outOfSequence + 1 }, resendSent := true,
        owedSup := if j.resendSent then j.owedSup else { j.owedSup with resend := true } }).settle)

/-- STATUS and RESEND in UP with a valid nr, after the nr has been processed (R55, R63, R69, R70). A STATUS with the poll flag adds
ANSWER. Its answer flag counts only while a poll is outstanding: poll outstanding is cleared, the retry count is 0 and POLL is no
longer owed; with an empty retransmission list T_resp stops and T_idle starts when its parameter is not 0, and with a non-empty one a
go-back pass starts from V(a) and T_resp restarts. A RESEND restarts T_resp when the list is non-empty, and starts a pass from
V(a) unless a pass that started there is under way; with an empty list it does nothing. -/
def Obligations.StatusAndResendAct : Prop :=
  ∀ (s : State) (l : LinkId) (nr : Seq), (s.link l).state = .up → (nr - (s.link l).va).toNat ≤ ((s.link l).vs - (s.link l).va).toNat →
    let t := s.afterNr l nr
    let k := t.link l
    let pass : Option GoBack := some { pointer := k.va, start := k.va }
    (∀ poll answer, s.Hears l (.status nr poll answer) →
      let sup : OwedSup := { k.owedSup with answer := k.owedSup.answer || poll }
      let answered : Link := { k with owedSup := { sup with poll := false }, pollOutstanding := false, retry := 0 }
      (answer = false ∨ k.pollOutstanding = false → exec (.status l) s = .next (t.setLink l { k with owedSup := sup }).settle)
      ∧ (answer = true → k.pollOutstanding = true → k.rtx = [] →
        exec (.status l) s = .next (t.setLink l
          { answered with tResp := none, tIdle := if k.par.tIdle = 0 then none else some k.par.tIdle }).settle)
      ∧ (answer = true → k.pollOutstanding = true → k.rtx ≠ [] →
        exec (.status l) s = .next (t.setLink l { answered with goBack := pass, tResp := some k.par.tResp }).settle))
    ∧ (s.Hears l (.resend nr) →
      (k.rtx = [] → exec (.resend l) s = .next t.settle)
      ∧ (k.rtx ≠ [] → ∀ g, k.goBack = some g → g.start = k.va →
        exec (.resend l) s = .next (t.setLink l { k with tResp := some k.par.tResp }).settle)
      ∧ (k.rtx ≠ [] → (∀ g, k.goBack = some g → g.start ≠ k.va) →
        exec (.resend l) s = .next (t.setLink l { k with goBack := pass, tResp := some k.par.tResp }).settle))

/-! ## Channel frames -/

/-- DATA placed or in violation (R97, R98, R116). A payload whose blocks are within the outstanding credit of a matching OPEN or CLOSING
record is placed at the tail of its receive queue, its blocks passing from FREE and R to RX; rx consumed and rx held rise by them, and
MSG-ARRIVED is posted when the queue was empty. A payload that exceeds the credit is discarded: the credit violations counter rises,
the record is aborted, and CH-ENDED(VIOLATION) is posted with the number of messages its send queue held. -/
def Obligations.DataIsPlacedWithinCredit : Prop :=
  ∀ (s : State) (l : LinkId) (nr : Seq) (dst src : ChanId) (payload : List Byte), s.Accepts l nr dst src (.data payload) →
    let t := s.afterAccept l nr
    let c := t.chan dst
    let n := (payload.length + 63) / 64
    t.Matches l dst src → (c.state = .opened ∨ c.state = .closing) →
    let placed := (t.setPool { t.pool with free := t.pool.free - n, rx := t.pool.rx + n, reserved := t.pool.reserved - n }).setChan dst
      { c with rxConsumed := c.rxConsumed + BitVec.ofNat 8 n, rxHeld := c.rxHeld + n, recvQ := c.recvQ ++ [{ channel := dst, payload }] }
    (n ≤ c.outstanding → c.recvQ = [] →
      exec (.data l) s = .next (placed.postTo c.owner
        { kind := .msgArrived, link := l, channel := dst, reason := none, arg := payload.length }).settle)
    ∧ (n ≤ c.outstanding → c.recvQ ≠ [] → exec (.data l) s = .next placed.settle)
    ∧ (c.outstanding < n →
      let k := t.link l
      let counted := t.setLink l { k with counters := { k.counters with violations := k.counters.violations + 1 } }
      exec (.data l) s = .next ((counted.abortChan dst).postTo c.owner
        { kind := .chEnded, link := l, channel := dst, reason := some .violation, arg := c.sendQ.length }).settle)

/-- A DATA frame whose addressed record is not a matching OPEN or CLOSING record is discarded: the stray counter of the link rises, and
beyond the acceptance of the frame by the link engine nothing else changes (R99). -/
def Obligations.StrayDataIsDiscarded : Prop :=
  ∀ (s : State) (l : LinkId) (nr : Seq) (dst src : ChanId) (payload : List Byte), s.Accepts l nr dst src (.data payload) →
    let t := s.afterAccept l nr
    ¬ (t.Matches l dst src ∧ ((t.chan dst).state = .opened ∨ (t.chan dst).state = .closing)) →
    exec (.data l) s = .next (t.strayed l).settle

/-- CHAN_OPEN, by the state of the addressed record (R11 to R16, Table 1-4). A LISTEN record bound to the link whose remote id is ANY or
the sender enters OPEN when its rx window is within free-unreserved, which is reserved: rx granted is the rx window, ACCEPT is owed.
When the reservation falls short it stays in LISTEN, refused attempts rises, and the answer is NO-BUFFER. A matching OPENING record is
a crossing: it enters OPEN, an OPEN still owed being replaced by ACCEPT in place. Entering OPEN posts CH-OPENED. Every other CHAN-OPEN
is refused, NO-LISTENER at a FREE record or at a LISTEN record that is not for it and BUSY elsewhere, and counted as stray. -/
def Obligations.ChanOpenMeetsTheRecord : Prop :=
  ∀ (s : State) (l : LinkId) (nr : Seq) (dst src : ChanId) (w : Nat), s.Accepts l nr dst src (.ctl (.opn w)) →
    let t := s.afterAccept l nr
    let c := t.chan dst
    let k := t.link l
    let ends (u : State) : Prop := exec (.chanOpen l) s = .next u.settle
    let opened (u : State) : State := u.postTo c.owner { kind := .chOpened, link := l, channel := dst, reason := none, arg := 0 }
    let answers (r : Reason) : List Answer := answersWith { refuse := some r, peerCh := src, ourCh := dst } k.answers
    let refused (r : Reason) : State :=
      t.setLink l { k with answers := answers r, counters := { k.counters with stray := k.counters.stray + 1 } }
    let forUs := c.link = l ∧ (c.remote = none ∨ c.remote = some src)
    (c.state = .listen → forUs → c.rxWindow ≤ t.pool.free - t.pool.reserved → c.owed = {} →
      ends (opened (((t.setPool { t.pool with reserved := t.pool.reserved + c.rxWindow }).setChan dst
        { c.opens w with
          remote := some src, rxConsumed := 0, rxGranted := BitVec.ofNat 8 c.rxWindow, refusedAttempts := 0,
          owed := { accept := true } }).setLink l { k with ready := k.ready ++ [dst] })))
    ∧ (c.state = .listen → forUs → t.pool.free - t.pool.reserved < c.rxWindow →
      ends ((t.setChan dst { c with refusedAttempts := min (c.refusedAttempts + 1) 255 }).setLink l { k with answers := answers .noBuffer }))
    ∧ (c.state = .listen → ¬ forUs → ends (refused .noListener))
    ∧ (c.state = .free → ends (refused .noListener))
    ∧ (c.state = .opening → t.Matches l dst src → c.owed.opn = true →
      ends (opened (t.setChan dst { c.opens w with owed := { c.owed with opn := false, accept := true } })))
    ∧ (c.state = .opening → t.Matches l dst src → c.owed.opn = false → ends (opened (t.setChan dst (c.opens w))))
    ∧ (c.state = .opening → ¬ t.Matches l dst src → ends (refused .busy))
    ∧ (c.state = .opened ∨ c.state = .closing ∨ c.state = .ended ∨ c.state = .aborting → ends (refused .busy))

/-- CHAN_ACCEPT, CHAN_REFUSE and CHAN_CREDIT at a matching record that takes them (R18 to R20, R102). An ACCEPT for OPENING with OPEN
sent enters OPEN and posts CH-OPENED; a REFUSE there ends the record with its reason (R121; the change is
EndAndAbortGiveUpTheRecord's), and frees an ABORTING record. A limit that advances tx limit by 1 to 128, to a credit within the peer
window, becomes the tx limit of an OPEN or CLOSING record; any other changes nothing and is not counted. -/
def Obligations.AcceptRefuseAndCreditAct : Prop :=
  ∀ (s : State) (l : LinkId) (nr : Seq) (dst src : ChanId) (x : Ctl), s.Accepts l nr dst src (.ctl x) →
    let t := s.afterAccept l nr
    let c := t.chan dst
    t.Matches l dst src →
    (∀ w, x = .accept w → c.state = .opening → c.owed.opn = false →
      exec (.chanAccept l) s = .next ((t.setChan dst (c.opens w)).postTo c.owner
        { kind := .chOpened, link := l, channel := dst, reason := none, arg := 0 }).settle)
    ∧ (∀ r, x = .refuse r → c.state = .opening → c.owed.opn = false → exec (.chanRefuse l) s = .next (t.endChan dst r).settle)
    ∧ (∀ r, x = .refuse r → c.state = .aborting → exec (.chanRefuse l) s = .next (t.freedAborted dst).settle)
    ∧ (∀ limit, x = .credit limit → c.state = .opened ∨ c.state = .closing →
      let advance := (limit - c.txLimit).toNat
      (1 ≤ advance → advance ≤ 128 → (limit - c.txUsed).toNat ≤ c.peerWindow →
        exec (.chanCredit l) s = .next (t.setChan dst { c with txLimit := limit }).settle)
      ∧ (advance = 0 ∨ 128 < advance ∨ c.peerWindow < (limit - c.txUsed).toNat → exec (.chanCredit l) s = .next t.settle))

/-- CHAN_CLOSE and CHAN_CLOSED at a matching record (R126, R128 to R131). A CHAN-CLOSE is always answered by an entry CLOSED of the
answer list. It ends an OPENING or OPEN record, or a CLOSING one whose own close has not been taken, with PEER-ABORTED or PEER-CLOSED
by its flag; it frees an ABORTING record whose close has not been taken; a record whose close has been taken stays as it is. A
CHAN-CLOSED answers a close that has been taken: it ends a CLOSING record with CLOSED and frees an ABORTING one. -/
def Obligations.CloseAndClosedEndTheConversation : Prop :=
  ∀ (s : State) (l : LinkId) (nr : Seq) (dst src : ChanId) (x : Ctl), s.Accepts l nr dst src (.ctl x) →
    let t := s.afterAccept l nr
    let c := t.chan dst
    t.Matches l dst src →
    (∀ abort, x = .close abort →
      let r : Reason := if abort then .peerAborted else .peerClosed
      let answered (u : State) : Prop := exec (.chanClose l) s = .next (u.setLink l
        { u.link l with answers := answersWith { refuse := none, peerCh := src, ourCh := dst } (u.link l).answers }).settle
      (c.state = .opening ∨ c.state = .opened ∨ (c.state = .closing ∧ c.closeSent = false) → answered (t.endChan dst r))
      ∧ (c.state = .aborting → c.closeSent = false → answered (t.freedAborted dst))
      ∧ (c.state = .closing ∨ c.state = .aborting → c.closeSent = true → answered t))
    ∧ (x = .closed → c.closeSent = true →
      (c.state = .closing → exec (.chanClosed l) s = .next (t.endChan dst .closed).settle)
      ∧ (c.state = .aborting → exec (.chanClosed l) s = .next (t.freedAborted dst).settle))

/-- A channel frame for want of a suitable record is counted as stray and changes no record (R10, R17, R18, R19, R102, R126, R131,
R132); a stray CHAN-CLOSE is answered by CHAN-CLOSED all the same. -/
def Obligations.FramesWithoutTheirRecordAreStray : Prop :=
  ∀ (s : State) (l : LinkId) (nr : Seq) (dst src : ChanId) (x : Ctl), s.Accepts l nr dst src (.ctl x) →
    let t := s.afterAccept l nr
    let c := t.chan dst
    let sent := c.state = .opening ∧ c.owed.opn = false
    let u := t.strayed l
    (∀ w, x = .accept w → ¬ (t.Matches l dst src ∧ sent) → exec (.chanAccept l) s = .next u.settle)
    ∧ (∀ r, x = .refuse r → ¬ (t.Matches l dst src ∧ (sent ∨ c.state = .aborting)) → exec (.chanRefuse l) s = .next u.settle)
    ∧ (∀ limit, x = .credit limit → ¬ (t.Matches l dst src ∧ (c.state = .opened ∨ c.state = .closing)) →
      exec (.chanCredit l) s = .next u.settle)
    ∧ (x = .closed → ¬ (t.Matches l dst src ∧ c.closeSent = true ∧ (c.state = .closing ∨ c.state = .aborting)) →
      exec (.chanClosed l) s = .next u.settle)
    ∧ (∀ abort, x = .close abort →
      ¬ (t.Matches l dst src ∧ (c.state = .opening ∨ c.state = .opened ∨ c.state = .closing ∨ c.state = .aborting)) →
      exec (.chanClose l) s = .next (u.setLink l
        { u.link l with answers := answersWith { refuse := none, peerCh := src, ourCh := dst } (u.link l).answers }).settle)

/-! ## Timers -/

/-- T_ACK_EXPIRY, T_RESP_EXPIRY and T_IDLE_EXPIRY of a timer that is due (R36, R42, R67, R68, R71). T_ack adds ACK. T_resp with retries
left restarts, raises the retry count and owes LINK-OPEN again in STARTING, LINK-CLOSE again in STOPPING, and a POLL in UP; with the
retry count at N_retry it enters FAILED(RETRY-EXHAUSTED), in UP after a teardown, and completes a stop. T_idle owes a POLL and starts
T_resp. A timer that is not due changes nothing (log entry 4). -/
def Obligations.TimerExpiriesAct : Prop :=
  ∀ (s : State) (l : LinkId),
    let k := s.link l
    let o := k.owedLink
    let retried : Link := { k with retry := k.retry + 1, tResp := some k.par.tResp }
    let resp (u : State) : Prop := exec (.tRespExpiry l) s = .next u.settle
    (k.state = .up → k.tAck = some 0 →
      exec (.tAckExpiry l) s = .next (s.setLink l { k with tAck := none, owedSup := { k.owedSup with ack := true } }).settle)
    ∧ (k.state = .up → k.tIdle = some 0 →
      exec (.tIdleExpiry l) s = .next (s.setLink l { k with
        tIdle := none, tResp := some k.par.tResp, pollOutstanding := true, owedSup := { k.owedSup with poll := true } }).settle)
    ∧ (k.tResp = some 0 → k.retry ≠ k.par.nRetry →
      (k.state = .starting → resp (s.setLink l { retried with owedLink := { o with opn := true } }))
      ∧ (k.state = .stopping → resp (s.setLink l { retried with owedLink := { o with close := true } }))
      ∧ (k.state = .up → resp (s.setLink l { retried with pollOutstanding := true, owedSup := { k.owedSup with poll := true } })))
    ∧ (k.tResp = some 0 → k.retry = k.par.nRetry →
      (k.state = .starting → resp (s.fell l .failed .retryExhausted { o with opn := false }))
      ∧ (k.state = .stopping → resp (s.fell l .down .stopped { o with close := false }))
      ∧ (k.state = .up → resp ((s.teardown l .retryExhausted).fell l .failed .retryExhausted { o with opn := false })))
    ∧ (k.tAck ≠ some 0 → exec (.tAckExpiry l) s = .next s)
    ∧ (k.tResp ≠ some 0 → exec (.tRespExpiry l) s = .next s)
    ∧ (k.tIdle ≠ some 0 → exec (.tIdleExpiry l) s = .next s)

/-! ## The arbiter -/

/-- The order of selection (R73, R75, R76, R79, R81, R83, R84): what the arbiter of a link chooses can be taken, and nothing of a
lower place in the order of Table 4-2 can; it chooses nothing only when nothing can be taken. An enabled port whose transmit buffer is
free takes what is chosen, and otherwise nothing is taken. The window is open while fewer frames than the agreed window are
unacknowledged (R79), a record of the control-ready list is served by the rank of R23, and a message is eligible for DATA when its blocks
fit the available tx credit (R84). The go-back pointer, if any, stands on an entry (StepKeepsLinks). -/
def Obligations.ArbiterKeepsTheOrder : Prop :=
  ∀ (s : State) (l : LinkId), (∀ g, (s.link l).goBack = some g → ∃ e ∈ (s.link l).rtx, e.ns = g.pointer) →
    (∀ t, s.choose l = some t → s.Takeable l t ∧ ∀ u, s.Takeable l u → s.rank l t ≤ s.rank l u)
    ∧ (s.choose l = none → ∀ u, ¬ s.Takeable l u)
    ∧ (∀ t, (s.line l).enabled = true → (s.line l).tx = none → s.choose l = some t → s.arbitrate l = s.take l t)
    ∧ ((s.line l).enabled = false ∨ (s.line l).tx ≠ none → s.arbitrate l = s)

/-- The taking of a frame that carries nr stamps it with V(r), clears ack pending, stops T_ack and removes ACK; a link frame leaves
these as they were (R54). A go-back retransmission carries the current nr. -/
def Obligations.TakingsStampTheirFrames : Prop :=
  ∀ (s : State) (l : LinkId) (t : Taking),
    let u := s.take l t
    (∀ f, t = .link f →
      (u.link l).ackPending = (s.link l).ackPending ∧ (u.link l).tAck = (s.link l).tAck
        ∧ (u.link l).owedSup = (s.link l).owedSup ∧ ∃ x, (u.line l).tx = some x ∧ x.frame.nr = none)
    ∧ ((∀ f, t ≠ .link f) →
      (u.link l).ackPending = false ∧ (u.link l).tAck = none ∧ (u.link l).owedSup.ack = false
        ∧ ∃ x, (u.line l).tx = some x ∧ x.frame.nr = some (s.link l).vr)

/-- The frames that make no entry (R47, R62, R65, R69, R75, R77, R79). A link frame is built from the link record and leaves the owed link
frames, and nothing else changes. A STATUS for ANSWER and POLL carries and removes both, a RESEND leaves resend sent set, a plain
STATUS meets ACK. A retransmission rebuilds its entry, raises its counter and advances the pointer; the pass ends at V(s). -/
def Obligations.TakingsWithoutAnEntry : Prop :=
  ∀ (s : State) (l : LinkId),
    let k := s.link l
    let o := k.owedLink
    let stamped : Link := { k with ackPending := false, tAck := none, owedSup := { k.owedSup with ack := false } }
    s.take l (.link .closed) = (s.setLink l { k with owedLink := { o with closed := false } }).sending l .linkClosed
    ∧ s.take l (.link .close) = (s.setLink l { k with owedLink := { o with close := false } }).sending l .linkClose
    ∧ (∀ e a, k.peerEpoch = some e → k.agreed = some a →
      s.take l (.link .accept) = (s.setLink l { k with owedLink := { o with accept := false } }).sending l (.linkAccept e k.ownEpoch a))
    ∧ (∀ q, k.params = some q →
      s.take l (.link .opn) = (s.setLink l { k with owedLink := { o with opn := false } }).sending l (.linkOpen k.ownEpoch q.windowOffer))
    ∧ s.take l .statusFrame = (s.setLink l { stamped with owedSup := { k.owedSup with answer := false, poll := false, ack := false } }).sending l
      (.status k.vr k.owedSup.poll k.owedSup.answer)
    ∧ s.take l .resend = (s.setLink l { stamped with owedSup := { k.owedSup with resend := false, ack := false } }).sending l (.resend k.vr)
    ∧ s.take l .plainStatus = (s.setLink l stamped).sending l (.status k.vr false false)
    ∧ (∀ (e : Entry) (g : GoBack), k.goBack = some g →
      s.take l (.retransmit e) = (s.setLink l { stamped with
          counters := { k.counters with retransmissions := k.counters.retransmissions + 1 },
          goBack := if g.pointer + 1 = k.vs then none else some { g with pointer := g.pointer + 1 } }).sending l
        (.seq e.ns k.vr e.peerCh e.localCh (match e.body with | .data m => .data m.payload | .ctl c => .ctl c)))

/-- The new sequenced frames (R53, R81, R83, R23, R85). Each is numbered V(s), appended to the retransmission list and handed to the line
port. An answer leaves the answer list and no record changes. A record at the head of the control-ready list sends a snapshot of its
highest owed member and moves to the tail, or leaves the list; CLOSE sets close sent. DATA removes the head message, adds its blocks
to tx used and moves the round-robin pointer of its class; a CLOSING record whose send queue is then empty owes CLOSE. -/
def Obligations.TakingsWithAnEntry : Prop :=
  ∀ (s : State) (l : LinkId),
    let k := s.link l
    let frame (dst src : ChanId) (c : Content) : Frame := .seq k.vs k.vr dst src c
    (∀ (a : Answer) (rest : List Answer) (x : Ctl), k.answers = a :: rest →
      (a.refuse = none ∧ x = .closed ∨ ∃ r, a.refuse = some r ∧ x = .refuse r) →
      s.take l (.answer a) = (s.setLink l { k.sent a.peerCh a.ourCh (.ctl x) with answers := rest }).sending l
        (frame a.peerCh a.ourCh (.ctl x)))
    ∧ (∀ (i r : ChanId) (rest : List ChanId) (m : Member) (x : Ctl) (o : Owed), k.ready = i :: rest → (s.chan i).remote = some r →
      let c := s.chan i
      (m = .opn ∧ x = .opn c.rxWindow ∧ o = { c.owed with opn := false }
        ∨ m = .accept ∧ x = .accept c.rxWindow ∧ o = { c.owed with accept := false }
        ∨ m = .credit ∧ x = .credit c.rxGranted ∧ o = { c.owed with credit := false }
        ∨ m = .close ∧ (∃ abort, c.owed.close = some abort ∧ x = .close abort) ∧ o = { c.owed with close := none }) →
      s.take l (.ready i m) = (((s.setLink l { k.sent r i (.ctl x) with ready := rest ++ if o = {} then [] else [i] }).setChan i
        { c with owed := o, closeSent := c.closeSent || decide (m = .close) }).sending l (frame r i (.ctl x))))
    ∧ (∀ (i r : ChanId) (m : TxMsg) (rest : List TxMsg), (s.chan i).sendQ = m :: rest → (s.chan i).remote = some r → (s.chan i).link = l →
      let c := s.chan i
      let drained := c.state = .closing ∧ rest = []
      s.take l (.data i m) = (((s.setLink l { k.sent r i (.data m) with
          rrUrgent := if c.cls = .urgent then i else k.rrUrgent, rrNormal := if c.cls = .normal then i else k.rrNormal,
          ready := if drained ∧ c.owed = {} then k.ready ++ [i] else k.ready }).setChan i
        { c with
          sendQ := rest, txUsed := c.txUsed + BitVec.ofNat 8 ((m.payload.length + 63) / 64),
          owed := if drained then { c.owed with credit := false, close := some false } else c.owed }).sending l
        (frame r i (.data m.payload))))

/-! ## Shared changes -/

/-- An acknowledgement of n entries, n above 0 (R57, R58, R93, R113). The entries leave the head of the retransmission list and V(a)
becomes nr; the retry count is 0; T_resp restarts with entries left, goes on under a poll, and otherwise stops, T_idle starting; a
go-back pointer on a removed entry moves to V(a), and the pass ends if that is V(s). The messages of the entries are freed, MSG-SENT
is posted in order for those with the notify flag, and the credit-owed list is served last (R101, CreditOwedListIsServedInTurn). -/
def Obligations.AcknowledgementFreesEntries : Prop :=
  ∀ (s : State) (l : LinkId) (nr : Seq),
    let k := s.link l
    let n := (nr - k.va).toNat
    let rest := k.rtx.drop n
    let ms := dataMsgs (k.rtx.take n)
    (n = 0 → s.acknowledge l nr = s)
    ∧ (0 < n → ∃ w : State, s.acknowledge l nr = w.serve
      ∧ w.link l = { k with
          va := nr, rtx := rest, retry := 0
          goBack := k.goBack.bind fun g =>
            if (g.pointer - k.va).toNat < n then (if nr = k.vs then none else some { g with pointer := nr }) else some g
          tResp := if rest ≠ [] then some k.par.tResp else if k.pollOutstanding then k.tResp else none
          tIdle := if rest ≠ [] ∨ k.pollOutstanding = true then k.tIdle else if k.par.tIdle = 0 then none else some k.par.tIdle }
      ∧ (∀ j, j ≠ l → w.link j = s.link j)
      ∧ (∀ p, w.port p = ((ms.filter fun m => m.notify && m.slot = p).map fun m =>
          ({ kind := .msgSent, link := l, channel := m.channel, reason := none, arg := m.tag.toNat } : Event)).foldl HostPort.post (s.port p))
      ∧ w.pool.free = s.pool.free + (ms.map fun m => (m.payload.length + 63) / 64).sum
      ∧ (∀ p : Slot, w.pool.usage[p] = s.pool.usage[p] - chargedBlocks p ms)
      ∧ w.pool.rx = s.pool.rx ∧ w.pool.reserved = s.pool.reserved ∧ w.pool.creditOwed = s.pool.creditOwed
      ∧ w.chans = s.chans ∧ w.lines = s.lines ∧ w.resetLow = s.resetLow ∧ w.freeCount = s.freeCount ∧ w.pending = s.pending)

/-- A record in OPENING, OPEN or CLOSING ended with a reason (R121) or aborted (R122): the record itself, what it sheds, and the events.
Ending leaves ENDED with the receive queue kept, frees the send queue and posts CH-ENDED with the number of messages discarded; the
record leaves the control-ready list. Aborting leaves ABORTING with CLOSE with the abort marker owed unless the close has been sent,
frees both queues and posts nothing; the record keeps its place on the control-ready list, joins its tail or leaves it (R24). Either way
the outstanding credit is released (R96), and the credit-owed list is served last (R101, CreditOwedListIsServedInTurn; log entry 12). -/
def Obligations.EndAndAbortGiveUpTheRecord : Prop :=
  ∀ (s : State) (i : ChanId) (r : Reason), (s.chan i).state = .opening ∨ (s.chan i).state = .opened ∨ (s.chan i).state = .closing →
    let c := s.chan i
    let k := s.link c.link
    let without := if c.owed = {} then k.ready else k.ready.filter (· != i)
    (s.endChan i r).chan i = c.endedWith r
    ∧ (s.abortChan i).chan i = c.aborted
    ∧ (∃ w : State, s.endChan i r = w.serve ∧ w.chan i = c.endedWith r ∧ s.Sheds w i c.sendQ 0 without
      ∧ ∀ p, w.port p = if p = c.owner then
          (s.port p).post { kind := .chEnded, link := c.link, channel := i, reason := some r, arg := c.sendQ.length } else s.port p)
    ∧ (∃ w : State, s.abortChan i = w.serve ∧ w.chan i = c.aborted
      ∧ s.Sheds w i c.sendQ (heldBlocks c.recvQ) (if c.closeSent then without else if c.owed = {} then k.ready ++ [i] else k.ready)
      ∧ w.ports = s.ports)

/-- A teardown of a link with a reason (R46, R133, R141). Every OPENING, OPEN and CLOSING record bound to the link is ended with the
reason, every ABORTING one becomes FREE, and other records of the link are unchanged; their events are posted in ascending order of
id. The retransmission list, the control-ready list, the answer list and the supervisory state are emptied and the timers stopped,
and the messages of the list and of the send queues are freed. A sequenced frame being sent with a character of its escaped body not
yet begun is cut off there (R141; that the model knows how many are begun by counting at its ticks is its choice, log entry 10). Blocks
given up are granted to the records of the other link on the credit-owed list in its order, those of this link having left it. -/
def Obligations.TeardownEmptiesTheLink : Prop :=
  ∀ (s : State) (l : LinkId) (r : Reason),
    let k := s.link l
    let u := s.teardown l r
    let ms := (allChans.flatMap fun i =>
      if (s.chan i).link = l ∧ (s.chan i).state ∈ [.opening, .opened, .closing] then (s.chan i).sendQ else []) ++ dataMsgs k.rtx
    let waiting := s.pool.creditOwed.filter fun i => (s.chan i).link != l
    (∀ i, (s.chan i).link = l → u.chan i = (s.chan i).tornDown r)
    ∧ (∀ i, (s.chan i).link ≠ l → (u.chan i).grantedFrom (s.chan i) ∧ (i ∉ s.pool.creditOwed → u.chan i = s.chan i))
    ∧ (s.RecordsOk → s.PoolOk → s.ServedInTurn u waiting
      ∧ ∀ j, j ≠ l → (u.link j).ready = (s.link j).ready ++ waiting.filter fun i =>
          decide ((s.chan i).link = j ∧ (s.chan i).owed = {} ∧ (u.chan i).owed ≠ {}))
    ∧ u.link l = { k with
        rtx := [], ready := [], answers := [], owedSup := {}, goBack := none, pollOutstanding := false, ackPending := false,
        resendSent := false, tAck := none, tResp := none, tIdle := none }
    ∧ (∀ j, j ≠ l → (u.link j).readyFrom (s.link j))
    ∧ (∀ p, u.port p = (((s.tornEvents l r).filter fun x => x.1 = p).map Prod.snd).foldl HostPort.post (s.port p))
    ∧ (∀ j, j ≠ l → u.line j = s.line j)
    ∧ (let x := s.line l
      let truncated (t : TxSlot) : Prop :=
        (∃ ns nr dst src c, t.frame = .seq ns nr dst src c) ∧ t.cut = none ∧ t.begun + 1 < t.frame.lineChars.length
      (∀ t, x.tx = some t → truncated t → u.line l = { x with tx := some { t with cut := some t.begun } })
      ∧ ((∀ t, x.tx = some t → ¬ truncated t) → u.line l = x))
    ∧ u.pool.free = s.pool.free + (ms.map TxMsg.blocks).sum
    ∧ (∀ n : Slot, u.pool.usage[n] = s.pool.usage[n] - chargedBlocks n ms)
    ∧ u.pool.rx = s.pool.rx
    ∧ u.pool.creditOwed <:+ waiting
    ∧ u.resetLow = s.resetLow ∧ u.freeCount = s.freeCount ∧ u.pending = s.pending

/-- Serving the credit-owed list (R100, R101), from its head while free-unreserved is above 0: a want met leaves the list and the next is
served, a grant that falls short takes all that is left and the record stays at the head. The grant raises rx granted and R and makes
CREDIT owed, at the tail of the control-ready list when the record owed nothing. When serving ends the list is empty or nothing is
free-unreserved. -/
def Obligations.CreditOwedListIsServedInTurn : Prop :=
  ∀ s : State,
    (s.pool.creditOwed = [] ∨ s.pool.free - s.pool.reserved = 0 → s.serve = s)
    ∧ (s.serve.pool.creditOwed = [] ∨ s.serve.pool.free - s.serve.pool.reserved = 0)
    ∧ (∀ (i : ChanId) (rest : List ChanId), s.pool.creditOwed = i :: rest → 0 < s.pool.free - s.pool.reserved →
      let c := s.chan i
      let k := s.link c.link
      let left := s.pool.free - s.pool.reserved
      let want := if c.state = .opened then c.rxWindow - c.rxHeld - (c.rxGranted - c.rxConsumed).toNat else 0
      let granted (g : Nat) (list : List ChanId) : State := ((s.setChan i
          { c with rxGranted := c.rxGranted + BitVec.ofNat 8 g, owed := { c.owed with credit := true } }).setPool
          { s.pool with reserved := s.pool.reserved + g, creditOwed := list }).setLink c.link
        { k with ready := if c.owed = {} then k.ready ++ [i] else k.ready }
      (want = 0 → s.serve = (s.setPool { s.pool with creditOwed := rest }).serve)
      ∧ (0 < want → want ≤ left → c.owed.close = none → s.serve = (granted want rest).serve)
      ∧ (left < want → c.owed.close = none → s.serve = granted left (i :: rest)))

/-- A post to a host port (R162, R163). A port that is not ATTACHED does nothing. An attached port appends the event while fewer than 31
ordinary records wait and no OVERFLOW record is last; with 31 ordinary records it appends an OVERFLOW record of arg 1; with an
OVERFLOW record last it adds 1 to its arg, saturating at 65535, and counts the post also into a read that has chosen that record.
HINTn is asserted afterwards, and nothing else of the port changes. HINTn is asserted exactly while a response or an event waits on a
port that is not in RESET (R164, R161). -/
def Obligations.PostsJoinTheEventQueue : Prop :=
  (∀ x : HostPort, x.hint = true ↔ x.session ≠ .reset ∧ (x.responses ≠ [] ∨ x.events ≠ []))
  ∧ ∀ (x : HostPort) (e : Event),
      let lastOrdinary := ∀ t, x.events.getLast? = some t → t.kind ≠ .overflow
      let ordinary := (x.events.filter fun f => f.kind ≠ .overflow).length
      let joined (q : List Event) (t : Txn) : Prop := x.post e = { x with events := q, txn := t } ∧ (x.post e).hint = true
      let plain := ∀ c n, x.txn = .readEvent (some c) n → c.kind ≠ .overflow
      (x.session ≠ .attached → x.post e = x)
      ∧ (x.session = .attached → plain →
        (lastOrdinary → ordinary < 31 → joined (x.events ++ [e]) x.txn)
        ∧ (lastOrdinary → 31 ≤ ordinary →
          joined (x.events ++ [{ kind := .overflow, link := 0, channel := 0, reason := none, arg := 1 }]) x.txn)
        ∧ (∀ q t, x.events = q ++ [t] → t.kind = .overflow → joined (q ++ [{ t with arg := min (t.arg + 1) 65535 }]) x.txn))
      ∧ (x.session = .attached → ∀ c n q t, x.txn = .readEvent (some c) n → c.kind = .overflow → x.events = q ++ [t] → t.kind = .overflow →
        joined (q ++ [{ t with arg := min (t.arg + 1) 65535 }]) (.readEvent (some c) (min (n + 1) 65535)))
end

