-- ==== Sys2Proof/Laws/Format.lean ====
section
/-! SUPPORT. The bytes of a frame: what each reader of a field gives for the byte that is sent for it. -/

namespace Sys2Proof.Machine

@[simp] theorem byteOf_toNat (n : Nat) : (byteOf n).toNat = n % 256 := by simp [byteOf]

@[simp] theorem crcBytes_length (bs : List Byte) : (crcBytes bs).length = 2 := rfl

theorem fromBe16_be16 {n : Nat} (h : n < 65536) : fromBe16 (byteOf (n / 256)) (byteOf n) = n := by
  simp [fromBe16]; omega

@[simp] theorem readSeq_seqByte (n : Seq) : readSeq (seqByte n) = some n := by
  have h := n.isLt
  simp only [readSeq, seqByte, BitVec.toNat_setWidth]
  rw [if_pos (by omega)]
  congr 1
  apply BitVec.eq_of_toNat_eq
  simp

@[simp] theorem chanOf_chanByte (i : ChanId) : chanOf (chanByte i).toNat = some i := by
  have h := i.isLt
  have e : i.val % 256 = i.val := by omega
  simp [chanOf, chanByte, e]

@[simp] theorem chanOf_val (i : ChanId) : chanOf i.val = some i := dif_pos i.isLt

@[simp] theorem linkOf_val (l : LinkId) : linkOf l.val = some l := dif_pos l.isLt

theorem readRange_byteOf {lo hi n : Nat} (h1 : lo ≤ n) (h2 : n ≤ hi) (h3 : hi < 256) :
    readRange lo hi (byteOf n) = some n := by
  have e : n % 256 = n := by omega
  simp [readRange, e, h1, h2]

@[simp] theorem readEpoch_ne {e : Byte} (h : e ≠ 0#8) : readEpoch e = some e := by simp [readEpoch, h]

@[simp] theorem readFlag_flagByte (b : Bool) : readFlag (flagByte b) = some b := by cases b <;> decide

theorem readRange_statusFlags (p a : Bool) : readRange 0 3 (statusFlags p a) = some (bit p 0 + bit a 1) := by
  cases p <;> cases a <;> decide

/-- The body of a frame ends with its CRC. -/
theorem body_take (f : Frame) : f.body.take (f.body.length - 2) = f.fields := by
  simp [Frame.body]

theorem body_drop (f : Frame) : f.body.drop (f.body.length - 2) = crcBytes f.fields := by
  simp [Frame.body]

/-- A body starts with its kind byte. -/
theorem fields_length_pos (f : Frame) : 1 ≤ f.fields.length := by
  cases f <;> simp [Frame.fields]

/-- No character of an escaped byte is a delimiter (R139). -/
theorem delimiter_notMem_escapeOf (b : Byte) : delimiter ∉ escapeOf b := by
  unfold escapeOf
  split
  · decide
  · split
    · decide
    · rename_i h _; simp; exact fun e => h e.symm

end Sys2Proof.Machine
end

