-- ==== Sys2Proof/Laws/State.lean ====
section
/-! SUPPORT. Reading a part of the state after a part has been replaced: one lemma per part and update. -/

namespace Sys2Proof.Machine

/-! ## The part replaced -/

@[simp] theorem port_setPort (s : State) (p : Slot) (x : HostPort) : (s.setPort p x).port p = x := by
  simp [State.port, State.setPort]

@[simp] theorem chan_setChan (s : State) (i : ChanId) (x : Chan) : (s.setChan i x).chan i = x := by
  simp [State.chan, State.setChan]

@[simp] theorem link_setLink (s : State) (l : LinkId) (x : Link) : (s.setLink l x).link l = x := by
  simp [State.link, State.setLink]

@[simp] theorem line_setLine (s : State) (l : LinkId) (x : LinePort) : (s.setLine l x).line l = x := by
  simp [State.line, State.setLine]

/-! ## Another part of the same kind -/

theorem port_setPort_ite (s : State) (p q : Slot) (x : HostPort) :
    (s.setPort p x).port q = if q = p then x else s.port q := by
  by_cases h : q = p
  · subst h; simp
  · have : p.val ≠ q.val := fun e => h (Fin.ext e.symm)
    simp [State.port, State.setPort, h, Vector.getElem_set_ne _ _ this]

theorem chan_setChan_ite (s : State) (i j : ChanId) (x : Chan) :
    (s.setChan i x).chan j = if j = i then x else s.chan j := by
  by_cases h : j = i
  · subst h; simp
  · have : i.val ≠ j.val := fun e => h (Fin.ext e.symm)
    simp [State.chan, State.setChan, h, Vector.getElem_set_ne _ _ this]

theorem link_setLink_ite (s : State) (l m : LinkId) (x : Link) :
    (s.setLink l x).link m = if m = l then x else s.link m := by
  by_cases h : m = l
  · subst h; simp
  · have : l.val ≠ m.val := fun e => h (Fin.ext e.symm)
    simp [State.link, State.setLink, h, Vector.getElem_set_ne _ _ this]

theorem line_setLine_ite (s : State) (l m : LinkId) (x : LinePort) :
    (s.setLine l x).line m = if m = l then x else s.line m := by
  by_cases h : m = l
  · subst h; simp
  · have : l.val ≠ m.val := fun e => h (Fin.ext e.symm)
    simp [State.line, State.setLine, h, Vector.getElem_set_ne _ _ this]

@[simp] theorem port_setPort_ne (s : State) {p q : Slot} (x : HostPort) (h : q ≠ p) : (s.setPort p x).port q = s.port q := by
  simp [port_setPort_ite, h]

@[simp] theorem chan_setChan_ne (s : State) {i j : ChanId} (x : Chan) (h : j ≠ i) : (s.setChan i x).chan j = s.chan j := by
  simp [chan_setChan_ite, h]

@[simp] theorem link_setLink_ne (s : State) {l m : LinkId} (x : Link) (h : m ≠ l) : (s.setLink l x).link m = s.link m := by
  simp [link_setLink_ite, h]

@[simp] theorem line_setLine_ne (s : State) {l m : LinkId} (x : LinePort) (h : m ≠ l) : (s.setLine l x).line m = s.line m := by
  simp [line_setLine_ite, h]

/-! ## Parts of other kinds -/

section SetPort
variable (s : State) (p : Slot) (x : HostPort)
@[simp] theorem chan_setPort (i : ChanId) : (s.setPort p x).chan i = s.chan i := rfl
@[simp] theorem link_setPort (l : LinkId) : (s.setPort p x).link l = s.link l := rfl
@[simp] theorem line_setPort (l : LinkId) : (s.setPort p x).line l = s.line l := rfl
@[simp] theorem pool_setPort : (s.setPort p x).pool = s.pool := rfl
@[simp] theorem resetLow_setPort : (s.setPort p x).resetLow = s.resetLow := rfl
@[simp] theorem freeCount_setPort : (s.setPort p x).freeCount = s.freeCount := rfl
@[simp] theorem pending_setPort : (s.setPort p x).pending = s.pending := rfl
end SetPort

section SetChan
variable (s : State) (i : ChanId) (x : Chan)
@[simp] theorem port_setChan (p : Slot) : (s.setChan i x).port p = s.port p := rfl
@[simp] theorem link_setChan (l : LinkId) : (s.setChan i x).link l = s.link l := rfl
@[simp] theorem line_setChan (l : LinkId) : (s.setChan i x).line l = s.line l := rfl
@[simp] theorem pool_setChan : (s.setChan i x).pool = s.pool := rfl
@[simp] theorem resetLow_setChan : (s.setChan i x).resetLow = s.resetLow := rfl
@[simp] theorem freeCount_setChan : (s.setChan i x).freeCount = s.freeCount := rfl
@[simp] theorem pending_setChan : (s.setChan i x).pending = s.pending := rfl
end SetChan

section SetLink
variable (s : State) (l : LinkId) (x : Link)
@[simp] theorem port_setLink (p : Slot) : (s.setLink l x).port p = s.port p := rfl
@[simp] theorem chan_setLink (i : ChanId) : (s.setLink l x).chan i = s.chan i := rfl
@[simp] theorem line_setLink (m : LinkId) : (s.setLink l x).line m = s.line m := rfl
@[simp] theorem pool_setLink : (s.setLink l x).pool = s.pool := rfl
@[simp] theorem resetLow_setLink : (s.setLink l x).resetLow = s.resetLow := rfl
@[simp] theorem freeCount_setLink : (s.setLink l x).freeCount = s.freeCount := rfl
@[simp] theorem pending_setLink : (s.setLink l x).pending = s.pending := rfl
end SetLink

section SetLine
variable (s : State) (l : LinkId) (x : LinePort)
@[simp] theorem port_setLine (p : Slot) : (s.setLine l x).port p = s.port p := rfl
@[simp] theorem chan_setLine (i : ChanId) : (s.setLine l x).chan i = s.chan i := rfl
@[simp] theorem link_setLine (m : LinkId) : (s.setLine l x).link m = s.link m := rfl
@[simp] theorem pool_setLine : (s.setLine l x).pool = s.pool := rfl
@[simp] theorem resetLow_setLine : (s.setLine l x).resetLow = s.resetLow := rfl
@[simp] theorem freeCount_setLine : (s.setLine l x).freeCount = s.freeCount := rfl
@[simp] theorem pending_setLine : (s.setLine l x).pending = s.pending := rfl
end SetLine

section SetPool
variable (s : State) (x : Pool)
@[simp] theorem port_setPool (p : Slot) : (s.setPool x).port p = s.port p := rfl
@[simp] theorem chan_setPool (i : ChanId) : (s.setPool x).chan i = s.chan i := rfl
@[simp] theorem link_setPool (l : LinkId) : (s.setPool x).link l = s.link l := rfl
@[simp] theorem line_setPool (l : LinkId) : (s.setPool x).line l = s.line l := rfl
@[simp] theorem pool_setPool : (s.setPool x).pool = x := rfl
@[simp] theorem resetLow_setPool : (s.setPool x).resetLow = s.resetLow := rfl
@[simp] theorem freeCount_setPool : (s.setPool x).freeCount = s.freeCount := rfl
@[simp] theorem pending_setPool : (s.setPool x).pending = s.pending := rfl
end SetPool

section SetPending
variable (s : State) (cs : List Instr)
@[simp] theorem port_setPending (p : Slot) : ({ s with pending := cs } : State).port p = s.port p := rfl
@[simp] theorem chan_setPending (i : ChanId) : ({ s with pending := cs } : State).chan i = s.chan i := rfl
@[simp] theorem link_setPending (l : LinkId) : ({ s with pending := cs } : State).link l = s.link l := rfl
@[simp] theorem line_setPending (l : LinkId) : ({ s with pending := cs } : State).line l = s.line l := rfl
end SetPending

/-! ## Whole components -/

@[simp] theorem chans_setPort (s : State) (p : Slot) (x : HostPort) : (s.setPort p x).chans = s.chans := rfl
@[simp] theorem links_setPort (s : State) (p : Slot) (x : HostPort) : (s.setPort p x).links = s.links := rfl
@[simp] theorem lines_setPort (s : State) (p : Slot) (x : HostPort) : (s.setPort p x).lines = s.lines := rfl
@[simp] theorem ports_setChan (s : State) (i : ChanId) (x : Chan) : (s.setChan i x).ports = s.ports := rfl
@[simp] theorem links_setChan (s : State) (i : ChanId) (x : Chan) : (s.setChan i x).links = s.links := rfl
@[simp] theorem lines_setChan (s : State) (i : ChanId) (x : Chan) : (s.setChan i x).lines = s.lines := rfl
@[simp] theorem ports_setLink (s : State) (l : LinkId) (x : Link) : (s.setLink l x).ports = s.ports := rfl
@[simp] theorem chans_setLink (s : State) (l : LinkId) (x : Link) : (s.setLink l x).chans = s.chans := rfl
@[simp] theorem lines_setLink (s : State) (l : LinkId) (x : Link) : (s.setLink l x).lines = s.lines := rfl
@[simp] theorem ports_setLine (s : State) (l : LinkId) (x : LinePort) : (s.setLine l x).ports = s.ports := rfl
@[simp] theorem chans_setLine (s : State) (l : LinkId) (x : LinePort) : (s.setLine l x).chans = s.chans := rfl
@[simp] theorem links_setLine (s : State) (l : LinkId) (x : LinePort) : (s.setLine l x).links = s.links := rfl
@[simp] theorem ports_setPool (s : State) (x : Pool) : (s.setPool x).ports = s.ports := rfl
@[simp] theorem chans_setPool (s : State) (x : Pool) : (s.setPool x).chans = s.chans := rfl
@[simp] theorem links_setPool (s : State) (x : Pool) : (s.setPool x).links = s.links := rfl
@[simp] theorem lines_setPool (s : State) (x : Pool) : (s.setPool x).lines = s.lines := rfl

/-! ## Two updates -/

@[simp] theorem setPort_setPort (s : State) (p : Slot) (x y : HostPort) : (s.setPort p x).setPort p y = s.setPort p y := by
  simp [State.setPort]

@[simp] theorem setChan_setChan (s : State) (i : ChanId) (x y : Chan) : (s.setChan i x).setChan i y = s.setChan i y := by
  simp [State.setChan]

@[simp] theorem setLink_setLink (s : State) (l : LinkId) (x y : Link) : (s.setLink l x).setLink l y = s.setLink l y := by
  simp [State.setLink]

@[simp] theorem setLine_setLine (s : State) (l : LinkId) (x y : LinePort) : (s.setLine l x).setLine l y = s.setLine l y := by
  simp [State.setLine]

@[simp] theorem setPool_setPool (s : State) (x y : Pool) : (s.setPool x).setPool y = s.setPool y := rfl

@[simp] theorem setPort_port (s : State) (p : Slot) : s.setPort p (s.port p) = s := by
  simp [State.setPort, State.port]

@[simp] theorem setChan_chan (s : State) (i : ChanId) : s.setChan i (s.chan i) = s := by
  simp [State.setChan, State.chan]

@[simp] theorem setLink_link (s : State) (l : LinkId) : s.setLink l (s.link l) = s := by
  simp [State.setLink, State.link]

/-- Writing a link record back with its own control-ready list changes nothing. -/
@[simp] theorem setLink_ready_self (s : State) (l : LinkId) : s.setLink l { s.link l with ready := (s.link l).ready } = s :=
  setLink_link s l

@[simp] theorem setLine_line (s : State) (l : LinkId) : s.setLine l (s.line l) = s := by
  simp [State.setLine, State.line]

@[simp] theorem setPool_pool (s : State) : s.setPool s.pool = s := rfl

/-! ## Equal states -/

/-- Two states whose parts are equal are equal. -/
theorem State.ext_parts {s u : State} (hr : s.resetLow = u.resetLow) (hp : ∀ p, s.port p = u.port p)
    (hc : ∀ i, s.chan i = u.chan i) (ho : s.pool = u.pool) (hl : ∀ l, s.link l = u.link l) (hn : ∀ l, s.line l = u.line l)
    (hf : s.freeCount = u.freeCount) (hq : s.pending = u.pending) : s = u := by
  cases s; cases u
  simp only [State.mk.injEq] at *
  refine ⟨hr, ?_, ?_, ho, ?_, ?_, hf, hq⟩
  · ext j hj; exact hp ⟨j, hj⟩
  · ext j hj; exact hc ⟨j, hj⟩
  · ext j hj; exact hl ⟨j, hj⟩
  · ext j hj; exact hn ⟨j, hj⟩

end Sys2Proof.Machine
end

