-- ==== Sys2Proof/Laws/Line.lean ====
section
/-! SUPPORT. What the operations of a line port do: characters found in levels, a whole character received, the transmitter at a tick
and at a teardown, and the level of LRDYn. -/

namespace Sys2Proof.Machine

/-! ## Characters in levels (R138) -/

theorem byteOfLevels_bits (b : Byte) : byteOfLevels ((List.range 8).map b.getLsbD) = b := by
  revert b; decide +kernel

/-- Eight levels after a start bit and the level of the stop bit make a character. -/
theorem read_character (a b c d e f g h stop : Bool) (vs : List Bool) :
    Sampler.ready.read (false :: a :: b :: c :: d :: e :: f :: g :: h :: stop :: vs) =
      (((if stop then Sampler.ready else .waiting).read vs).1,
        charOf [a, b, c, d, e, f, g, h] stop :: ((if stop then Sampler.ready else .waiting).read vs).2) := by
  simp [Sampler.read]

theorem charLevels_append (b : Byte) (vs : List Bool) : charLevels b ++ vs =
    false :: b.getLsbD 0 :: b.getLsbD 1 :: b.getLsbD 2 :: b.getLsbD 3 :: b.getLsbD 4 :: b.getLsbD 5 :: b.getLsbD 6 :: b.getLsbD 7
      :: true :: vs := rfl

/-- The character found in the levels that are sent for a byte is that byte. -/
theorem read_charLevels (b : Byte) (vs : List Bool) :
    Sampler.ready.read (charLevels b ++ vs) = ((Sampler.ready.read vs).1, .byte b :: (Sampler.ready.read vs).2) := by
  have e : byteOfLevels [b.getLsbD 0, b.getLsbD 1, b.getLsbD 2, b.getLsbD 3, b.getLsbD 4, b.getLsbD 5, b.getLsbD 6, b.getLsbD 7] = b :=
    byteOfLevels_bits b
  rw [charLevels_append, read_character, charOf, if_pos rfl, if_pos rfl, e]

/-- After the marking level a receiver looks for a start bit. -/
@[simp] theorem read_start_marking (wait : Bool) (vs : List Bool) :
    (Sampler.start wait).read (true :: vs) = Sampler.ready.read vs := by
  cases wait <;> rfl

/-- A receiver that waits for the marking level finds no character in a spacing level. -/
theorem read_waiting_spacing (n : Nat) : Sampler.waiting.read (List.replicate n false) = (.waiting, []) := by
  induction n with
  | zero => rfl
  | succ n ih => simpa [List.replicate_succ, Sampler.read] using ih

/-! ## Levels received (R137, R138) -/

theorem receiveLevels_disabled {s : State} {l : LinkId} (h : (s.line l).enabled = false) (levels : List Bool) :
    s.receiveLevels l levels = s := by
  simp [State.receiveLevels, h]

/-- Levels that hold one character hand it to the receiver, which then waits for the marking level or does not. -/
theorem receiveLevels_one {s : State} {l : LinkId} {levels : List Bool} {c : LineChar} {x : Sampler} (h : (s.line l).enabled = true)
    (hr : (Sampler.start (s.line l).rxWait).read levels = (x, [c])) :
    s.receiveLevels l levels = (s.setLine l { s.line l with rxWait := x == .waiting }).receiveChar l c := by
  simp [State.receiveLevels, h, hr]

/-- A whole character hands its byte to the receiver of an enabled port. -/
theorem receiveByte_enabled {s : State} {l : LinkId} (h : (s.line l).enabled = true) (b : Byte) :
    s.receiveByte l b = (s.setLine l { s.line l with rxWait := false }).receiveChar l (.byte b) := by
  have hr : (Sampler.start (s.line l).rxWait).read (true :: charLevels b) = (.ready, [.byte b]) := by
    have := read_charLevels b []
    simpa [Sampler.read] using this
  exact receiveLevels_one h hr

theorem receiveByte_disabled {s : State} {l : LinkId} (h : (s.line l).enabled = false) (b : Byte) : s.receiveByte l b = s :=
  receiveLevels_disabled h _

/-- What a character does to the state (R142, R49): the port takes it, and a report raises its counter. -/
theorem receiveChar_eq (s : State) (l : LinkId) (c : LineChar) :
    s.receiveChar l c = (s.setLine l ((s.line l).receive c).1).setLink l
      (match ((s.line l).receive c).2 with
        | some r => { s.link l with counters := r.bump (s.link l).counters }
        | none => s.link l) := by
  rcases hr : (s.line l).receive c with ⟨p, _ | r⟩
  · simp only [State.receiveChar, hr]
    exact (setLink_link (s.setLine l p) l).symm
  · simp only [State.receiveChar, hr]
    simp [State.count]

/-! ## The transmitter (R138, R140, R141) -/

@[simp] theorem chars_uncut {t : TxSlot} (h : t.cut = none) : t.chars = t.frame.lineChars := by simp [TxSlot.chars, h]

@[simp] theorem chars_cut {t : TxSlot} {n : Nat} (h : t.cut = some n) : t.chars = t.frame.lineChars.take n ++ [delimiter] := by
  simp [TxSlot.chars, h]

@[simp] theorem pass_frame (t : TxSlot) (n : Nat) : (t.pass n).frame = t.frame := rfl
@[simp] theorem pass_cut (t : TxSlot) (n : Nat) : (t.pass n).cut = t.cut := rfl
@[simp] theorem pass_chars (t : TxSlot) (n : Nat) : (t.pass n).chars = t.chars := rfl
theorem pass_begun (t : TxSlot) (n : Nat) : (t.pass n).begun = min (t.begun + n) (t.chars.length + 1) := rfl

/-- At one rate a millisecond that ends the character in progress passes the whole characters of its hundredths (R138). -/
theorem sendOn_steady {p : LinePort} (h : p.charRate = p.rate) (h0 : 0 < pace p.rate) (hp : p.phase < 100)
    (h1 : 100 ≤ p.phase + pace p.rate) : p.sendOn = { p with
      phase := (p.phase + pace p.rate) % 100, tx := p.tx.map fun t => t.pass ((p.phase + pace p.rate) / 100) } := by
  have e : pace p.rate * (pace p.rate - (100 - p.phase)) / pace p.rate = p.phase + pace p.rate - 100 := by
    rw [Nat.mul_div_cancel_left _ h0]; omega
  have m : (p.phase + pace p.rate - 100) % 100 = (p.phase + pace p.rate) % 100 := by omega
  have d : 1 + (p.phase + pace p.rate - 100) / 100 = (p.phase + pace p.rate) / 100 := by omega
  simp only [LinePort.sendOn, h, e, m, d, if_neg (show ¬ pace p.rate < 100 - p.phase by omega)]

/-- A tick changes nothing of a line port but the place of its transmitter on the line. -/
theorem tick_eq (p : LinePort) : p.tick = { p with phase := p.tick.phase, charRate := p.tick.charRate, tx := p.tick.tx } := by
  unfold LinePort.tick LinePort.sendOn; dsimp only; split_ifs <;> rfl

@[simp] theorem tick_disabled {p : LinePort} (h : p.enabled = false) : p.tick = p := by simp [LinePort.tick, h]

/-- A teardown told changes nothing of a line port but the cut of a frame being sent. -/
theorem toldTeardown_eq (p : LinePort) : p.toldTeardown = { p with tx := p.tx.map fun t =>
    if t.frame.sequenced = true ∧ t.cut = none ∧ t.begun + 1 < t.frame.lineChars.length then { t with cut := some t.begun } else t } := by
  rcases p with ⟨_, _, _, _, _, _, _ | t, _, _, _, _⟩
  · rfl
  · simp only [LinePort.toldTeardown, Bool.and_eq_true, decide_eq_true_eq, Option.isNone_iff_eq_none, and_assoc, Option.map_some]
    split_ifs <;> rfl

/-! ## LRDYn (R147) -/

@[simp] theorem sampled_enabled {p : LinePort} (h : p.enabled = true) (v : Bool) :
    p.sampled v = { p with lrdy := v, lineReady := some v } := by simp [LinePort.sampled, h]

@[simp] theorem sampled_disabled {p : LinePort} (h : p.enabled = false) (v : Bool) : p.sampled v = { p with lrdy := v } := by
  simp [LinePort.sampled, h]

end Sys2Proof.Machine
end

