-- ==== Sys2Proof/Laws/Ops.lean ====
section
/-! SUPPORT. What each shared operation changes and what it leaves: posts, owed sets, grants, the credit-owed list, freeings. -/

namespace Sys2Proof.Machine

/-! ## Updates of different kinds commute -/

theorem setChan_setPort (s : State) (p : Slot) (x : HostPort) (i : ChanId) (c : Chan) :
    (s.setPort p x).setChan i c = (s.setChan i c).setPort p x := rfl
theorem setLink_setPort (s : State) (p : Slot) (x : HostPort) (l : LinkId) (k : Link) :
    (s.setPort p x).setLink l k = (s.setLink l k).setPort p x := rfl
theorem setLine_setPort (s : State) (p : Slot) (x : HostPort) (l : LinkId) (k : LinePort) :
    (s.setPort p x).setLine l k = (s.setLine l k).setPort p x := rfl
theorem setPool_setPort (s : State) (p : Slot) (x : HostPort) (q : Pool) :
    (s.setPort p x).setPool q = (s.setPool q).setPort p x := rfl
theorem setPool_setChan (s : State) (i : ChanId) (c : Chan) (q : Pool) :
    (s.setChan i c).setPool q = (s.setPool q).setChan i c := rfl
theorem setLink_setChan (s : State) (i : ChanId) (c : Chan) (l : LinkId) (k : Link) :
    (s.setChan i c).setLink l k = (s.setLink l k).setChan i c := rfl
theorem setLink_setPool (s : State) (q : Pool) (l : LinkId) (k : Link) :
    (s.setPool q).setLink l k = (s.setLink l k).setPool q := rfl
theorem setLine_setLink (s : State) (l m : LinkId) (k : Link) (x : LinePort) :
    (s.setLink l k).setLine m x = (s.setLine m x).setLink l k := rfl

/-! ## Posts (R162) -/

@[simp] theorem postTo_chan (s : State) (n : Slot) (e : Event) (i : ChanId) : (s.postTo n e).chan i = s.chan i := rfl
@[simp] theorem postTo_link (s : State) (n : Slot) (e : Event) (l : LinkId) : (s.postTo n e).link l = s.link l := rfl
@[simp] theorem postTo_line (s : State) (n : Slot) (e : Event) (l : LinkId) : (s.postTo n e).line l = s.line l := rfl
@[simp] theorem postTo_pool (s : State) (n : Slot) (e : Event) : (s.postTo n e).pool = s.pool := rfl
@[simp] theorem postTo_resetLow (s : State) (n : Slot) (e : Event) : (s.postTo n e).resetLow = s.resetLow := rfl
@[simp] theorem postTo_freeCount (s : State) (n : Slot) (e : Event) : (s.postTo n e).freeCount = s.freeCount := rfl
@[simp] theorem postTo_pending (s : State) (n : Slot) (e : Event) : (s.postTo n e).pending = s.pending := rfl

theorem postTo_port (s : State) (n p : Slot) (e : Event) : (s.postTo n e).port p = if p = n then (s.port p).post e else s.port p := by
  by_cases h : p = n
  · subst h; simp [State.postTo]
  · simp [State.postTo, h]

theorem allSlots_eq : allSlots = [0, 1, 2] := by decide

/-- Every port takes the post (R48). -/
theorem postAll_port (s : State) (e : Event) (p : Slot) : (s.postAll e).port p = (s.port p).post e := by
  fin_cases p <;> simp [State.postAll, allSlots_eq, postTo_port]

@[simp] theorem postAll_chan (s : State) (e : Event) (i : ChanId) : (s.postAll e).chan i = s.chan i := rfl
@[simp] theorem postAll_link (s : State) (e : Event) (l : LinkId) : (s.postAll e).link l = s.link l := rfl
@[simp] theorem postAll_line (s : State) (e : Event) (l : LinkId) : (s.postAll e).line l = s.line l := rfl
@[simp] theorem postAll_pool (s : State) (e : Event) : (s.postAll e).pool = s.pool := rfl
@[simp] theorem postAll_resetLow (s : State) (e : Event) : (s.postAll e).resetLow = s.resetLow := rfl
@[simp] theorem postAll_freeCount (s : State) (e : Event) : (s.postAll e).freeCount = s.freeCount := rfl
@[simp] theorem postAll_pending (s : State) (e : Event) : (s.postAll e).pending = s.pending := rfl

theorem postAll_setLink (s : State) (l : LinkId) (k : Link) (e : Event) : (s.postAll e).setLink l k = (s.setLink l k).postAll e := rfl

/-- Every port but one takes the post (R34). -/
theorem postOthers_port (s : State) (n p : Slot) (e : Event) :
    (s.postOthers n e).port p = if p = n then s.port p else (s.port p).post e := by
  fin_cases n <;> fin_cases p <;> simp [State.postOthers, allSlots_eq, postTo_port]

section PostOthers
variable (s : State) (n : Slot) (e : Event)
theorem postOthers_frame : (∀ i, (s.postOthers n e).chan i = s.chan i) ∧ (∀ l, (s.postOthers n e).link l = s.link l)
    ∧ (∀ l, (s.postOthers n e).line l = s.line l) ∧ (s.postOthers n e).pool = s.pool
    ∧ (s.postOthers n e).resetLow = s.resetLow ∧ (s.postOthers n e).freeCount = s.freeCount
    ∧ (s.postOthers n e).pending = s.pending := by
  fin_cases n <;> simp [State.postOthers, allSlots_eq]
@[simp] theorem postOthers_chan (i : ChanId) : (s.postOthers n e).chan i = s.chan i := (postOthers_frame s n e).1 i
@[simp] theorem postOthers_link (l : LinkId) : (s.postOthers n e).link l = s.link l := (postOthers_frame s n e).2.1 l
@[simp] theorem postOthers_line (l : LinkId) : (s.postOthers n e).line l = s.line l := (postOthers_frame s n e).2.2.1 l
@[simp] theorem postOthers_pool : (s.postOthers n e).pool = s.pool := (postOthers_frame s n e).2.2.2.1
end PostOthers

/-- A post leaves everything of a port but its event queue and the count of a read in progress. -/
theorem post_frame (x : HostPort) (e : Event) : x.post e = { x with events := (x.post e).events, txn := (x.post e).txn } := by
  unfold HostPort.post
  split <;> rfl

@[simp] theorem post_session (x : HostPort) (e : Event) : (x.post e).session = x.session := by rw [post_frame]
@[simp] theorem post_responses (x : HostPort) (e : Event) : (x.post e).responses = x.responses := by rw [post_frame]
@[simp] theorem post_csLow (x : HostPort) (e : Event) : (x.post e).csLow = x.csLow := by rw [post_frame]

/-- A port without a session takes no post. -/
theorem post_of_no_session {x : HostPort} (e : Event) (h : x.session ≠ .attached) : x.post e = x := if_neg h

/-! ## Owed sets (R24) -/

@[simp] theorem setOwed_chan_self (s : State) (i : ChanId) (o : Owed) : (s.setOwed i o).chan i = { s.chan i with owed := o } := by
  simp [State.setOwed]

@[simp] theorem setOwed_chan_ne (s : State) {i j : ChanId} (o : Owed) (h : j ≠ i) : (s.setOwed i o).chan j = s.chan j := by
  simp [State.setOwed, h]

@[simp] theorem setOwed_link_self (s : State) (i : ChanId) (o : Owed) :
    (s.setOwed i o).link (s.chan i).link =
      { s.link (s.chan i).link with ready := readyAfter i (s.chan i).owed o (s.link (s.chan i).link).ready } := by
  simp [State.setOwed]

@[simp] theorem setOwed_link_ne (s : State) {i : ChanId} {l : LinkId} (o : Owed) (h : l ≠ (s.chan i).link) :
    (s.setOwed i o).link l = s.link l := by
  simp [State.setOwed, h]

@[simp] theorem setOwed_port (s : State) (i : ChanId) (o : Owed) (p : Slot) : (s.setOwed i o).port p = s.port p := rfl
@[simp] theorem setOwed_line (s : State) (i : ChanId) (o : Owed) (l : LinkId) : (s.setOwed i o).line l = s.line l := rfl
@[simp] theorem setOwed_pool (s : State) (i : ChanId) (o : Owed) : (s.setOwed i o).pool = s.pool := rfl
@[simp] theorem setOwed_resetLow (s : State) (i : ChanId) (o : Owed) : (s.setOwed i o).resetLow = s.resetLow := rfl
@[simp] theorem setOwed_freeCount (s : State) (i : ChanId) (o : Owed) : (s.setOwed i o).freeCount = s.freeCount := rfl
@[simp] theorem setOwed_pending (s : State) (i : ChanId) (o : Owed) : (s.setOwed i o).pending = s.pending := rfl

theorem owed_isEmpty_iff (o : Owed) : o.isEmpty = true ↔ o = {} := by
  obtain ⟨a, b, c, d⟩ := o
  cases a <;> cases b <;> cases c <;> cases d <;> simp [Owed.isEmpty]

theorem owed_isEmpty_eq (o : Owed) : o.isEmpty = decide (o = {}) := by
  rw [Bool.eq_iff_iff, owed_isEmpty_iff]; simp

/-- The control-ready list after a change of an owed set (R24). -/
theorem readyAfter_eq (i : ChanId) (old new : Owed) (q : List ChanId) :
    readyAfter i old new q = if old = {} ∧ new ≠ {} then q ++ [i] else if old ≠ {} ∧ new = {} then q.filter (· != i) else q := by
  simp only [readyAfter, owed_isEmpty_eq, Bool.and_eq_true, Bool.not_eq_true', decide_eq_true_eq, decide_eq_false_iff_not, ne_eq]

theorem setOwed_eq (s : State) (i : ChanId) (o : Owed) :
    s.setOwed i o = (s.setChan i { s.chan i with owed := o }).setLink (s.chan i).link
      { s.link (s.chan i).link with ready := readyAfter i (s.chan i).owed o (s.link (s.chan i).link).ready } := by
  simp [State.setOwed]

/-! ## Grants and the credit-owed list (R100, R101) -/

theorem oweCredit_setPort (s : State) (p : Slot) (x : HostPort) (i : ChanId) :
    (s.setPort p x).oweCredit i = (s.oweCredit i).setPort p x := by
  by_cases h : (s.chan i).owed.close.isSome = true
  · exact (if_pos h).trans (congrArg (State.setPort · p x) (if_pos h)).symm
  · have e : s.oweCredit i = s.setOwed i { (s.chan i).owed with credit := true } := if_neg h
    rw [e]
    exact if_neg h

theorem raiseGrant_setPort (s : State) (p : Slot) (x : HostPort) (i : ChanId) (g : Nat) :
    (s.setPort p x).raiseGrant i g = (s.raiseGrant i g).setPort p x := by
  by_cases h : g = 0
  · simp only [State.raiseGrant, if_pos h]
  · simp only [State.raiseGrant, if_neg h, chan_setPort, pool_setPort, setChan_setPort, setPool_setPort, oweCredit_setPort]

theorem setCreditOwed_setPort (s : State) (p : Slot) (x : HostPort) (q : List ChanId) :
    (s.setPort p x).setCreditOwed q = (s.setCreditOwed q).setPort p x := rfl

theorem serveList_setPort (q : List ChanId) (s : State) (p : Slot) (x : HostPort) :
    State.serveList q (s.setPort p x) = (State.serveList q s).setPort p x := by
  induction q generalizing s with
  | nil => rfl
  | cons i rest ih =>
    simp only [State.serveList, pool_setPort, chan_setPort, raiseGrant_setPort, ih, setCreditOwed_setPort]
    split_ifs <;> rfl

/-- Serving the credit-owed list does not consult a host port. -/
theorem serve_setPort (s : State) (p : Slot) (x : HostPort) : (s.setPort p x).serve = s.serve.setPort p x :=
  serveList_setPort _ _ _ _

theorem oweCredit_frame (s : State) (i : ChanId) : (s.oweCredit i).ports = s.ports ∧ (s.oweCredit i).lines = s.lines
    ∧ (s.oweCredit i).pool = s.pool ∧ (s.oweCredit i).resetLow = s.resetLow ∧ (s.oweCredit i).freeCount = s.freeCount
    ∧ (s.oweCredit i).pending = s.pending := by
  unfold State.oweCredit
  dsimp only
  split <;> exact ⟨rfl, rfl, rfl, rfl, rfl, rfl⟩

theorem raiseGrant_frame (s : State) (i : ChanId) (g : Nat) : (s.raiseGrant i g).ports = s.ports
    ∧ (s.raiseGrant i g).lines = s.lines ∧ (s.raiseGrant i g).resetLow = s.resetLow
    ∧ (s.raiseGrant i g).freeCount = s.freeCount ∧ (s.raiseGrant i g).pending = s.pending := by
  unfold State.raiseGrant
  split
  · exact ⟨rfl, rfl, rfl, rfl, rfl⟩
  · have h := oweCredit_frame ((s.setChan i { s.chan i with rxGranted := (s.chan i).rxGranted + BitVec.ofNat 8 g }).setPool (s.pool.reserve g)) i
    exact ⟨h.1, h.2.1, h.2.2.2.1, h.2.2.2.2.1, h.2.2.2.2.2⟩

theorem serveList_frame (q : List ChanId) (s : State) : (State.serveList q s).ports = s.ports
    ∧ (State.serveList q s).lines = s.lines ∧ (State.serveList q s).resetLow = s.resetLow
    ∧ (State.serveList q s).freeCount = s.freeCount ∧ (State.serveList q s).pending = s.pending := by
  induction q generalizing s with
  | nil => exact ⟨rfl, rfl, rfl, rfl, rfl⟩
  | cons i rest ih =>
    have h (g : Nat) := raiseGrant_frame s i g
    have k (g : Nat) := ih (s.raiseGrant i g)
    simp only [State.serveList]
    generalize min (s.chan i).openWant s.pool.unreserved = g
    split_ifs
    · exact ⟨rfl, rfl, rfl, rfl, rfl⟩
    · exact h g
    · exact ⟨(k g).1.trans (h g).1, (k g).2.1.trans (h g).2.1, (k g).2.2.1.trans (h g).2.2.1,
        (k g).2.2.2.1.trans (h g).2.2.2.1, (k g).2.2.2.2.trans (h g).2.2.2.2⟩

section Serve
variable (s : State)
@[simp] theorem serve_ports : s.serve.ports = s.ports := (serveList_frame _ s).1
@[simp] theorem serve_lines : s.serve.lines = s.lines := (serveList_frame _ s).2.1
@[simp] theorem serve_resetLow : s.serve.resetLow = s.resetLow := (serveList_frame _ s).2.2.1
@[simp] theorem serve_freeCount : s.serve.freeCount = s.freeCount := (serveList_frame _ s).2.2.2.1
@[simp] theorem serve_pending : s.serve.pending = s.pending := (serveList_frame _ s).2.2.2.2
@[simp] theorem serve_port (p : Slot) : s.serve.port p = s.port p := by simp [State.port]
@[simp] theorem serve_line (l : LinkId) : s.serve.line l = s.line l := by simp [State.line]
end Serve

/-! ## Freeings (R93, R94) -/

theorem freeTxMsgs_setPort (s : State) (p : Slot) (x : HostPort) (ms : List TxMsg) :
    (s.setPort p x).freeTxMsgs ms = (s.freeTxMsgs ms).setPort p x := rfl

theorem freeRxMsgs_setPort (s : State) (p : Slot) (x : HostPort) (ms : List RxMsg) :
    (s.setPort p x).freeRxMsgs ms = (s.freeRxMsgs ms).setPort p x := rfl

section Free
variable (s : State) (ts : List TxMsg) (rs : List RxMsg)
@[simp] theorem freeTxMsgs_port (p : Slot) : (s.freeTxMsgs ts).port p = s.port p := rfl
@[simp] theorem freeTxMsgs_chan (i : ChanId) : (s.freeTxMsgs ts).chan i = s.chan i := rfl
@[simp] theorem freeTxMsgs_link (l : LinkId) : (s.freeTxMsgs ts).link l = s.link l := rfl
@[simp] theorem freeTxMsgs_line (l : LinkId) : (s.freeTxMsgs ts).line l = s.line l := rfl
@[simp] theorem freeRxMsgs_port (p : Slot) : (s.freeRxMsgs rs).port p = s.port p := rfl
@[simp] theorem freeRxMsgs_chan (i : ChanId) : (s.freeRxMsgs rs).chan i = s.chan i := rfl
@[simp] theorem freeRxMsgs_link (l : LinkId) : (s.freeRxMsgs rs).link l = s.link l := rfl
@[simp] theorem freeRxMsgs_line (l : LinkId) : (s.freeRxMsgs rs).line l = s.line l := rfl
end Free

/-- What freeing received messages does to the pool (R94). -/
theorem freeRxMsgs_eq (s : State) (ms : List RxMsg) :
    s.freeRxMsgs ms = s.setPool { s.pool with free := s.pool.free + heldBlocks ms, rx := s.pool.rx - heldBlocks ms } := by
  have h : ∀ (p : Pool), ms.foldl (fun p m => p.freeRx m.blocks) p
      = { p with free := p.free + heldBlocks ms, rx := p.rx - heldBlocks ms } := by
    induction ms with
    | nil => intro p; simp [heldBlocks]
    | cons m ms ih =>
      intro p
      rw [List.foldl_cons, ih]
      simp only [Pool.freeRx, heldBlocks, List.map_cons, List.sum_cons, Nat.add_assoc, Nat.sub_sub]
  simp only [State.freeRxMsgs, h]

theorem usage_set (v : Vector Nat 3) (n m : Slot) (b : Nat) : (v.set n.val b n.isLt)[m] = if m = n then b else v[m] := by
  by_cases h : m = n
  · subst h; simp
  · have : n.val ≠ m.val := fun e => h (Fin.ext e.symm)
    simp [h, Vector.getElem_set_ne _ _ this]

/-- What freeing transmit messages does to the pool (R93). -/
theorem freeTx_foldl (ms : List TxMsg) (p : Pool) :
    (ms.foldl (fun p m => p.freeTx m.slot m.blocks) p).free = p.free + (ms.map TxMsg.blocks).sum
    ∧ (∀ n : Slot, (ms.foldl (fun p m => p.freeTx m.slot m.blocks) p).usage[n] = p.usage[n] - chargedBlocks n ms)
    ∧ (ms.foldl (fun p m => p.freeTx m.slot m.blocks) p).rx = p.rx
    ∧ (ms.foldl (fun p m => p.freeTx m.slot m.blocks) p).reserved = p.reserved
    ∧ (ms.foldl (fun p m => p.freeTx m.slot m.blocks) p).creditOwed = p.creditOwed := by
  induction ms generalizing p with
  | nil => simp [chargedBlocks]
  | cons m ms ih =>
    obtain ⟨h1, h2, h3, h4, h5⟩ := ih (p.freeTx m.slot m.blocks)
    refine ⟨?_, fun n => ?_, h3, h4, h5⟩
    · rw [List.foldl_cons, h1]
      simp only [Pool.freeTx, List.map_cons, List.sum_cons, Nat.add_assoc]
    · have e : (p.freeTx m.slot m.blocks).usage[n] = if n = m.slot then p.usage[m.slot] - m.blocks else p.usage[n] :=
        usage_set _ _ _ _
      rw [List.foldl_cons, h2, e]
      simp only [chargedBlocks, List.filter_cons]
      by_cases h : n = m.slot
      · subst h; simp; omega
      · have h' : ¬ m.slot = n := fun a => h a.symm
        simp [h, h']

theorem freeTxMsgs_pool (s : State) (ms : List TxMsg) :
    (s.freeTxMsgs ms).pool.free = s.pool.free + (ms.map TxMsg.blocks).sum
    ∧ (∀ n : Slot, (s.freeTxMsgs ms).pool.usage[n] = s.pool.usage[n] - chargedBlocks n ms)
    ∧ (s.freeTxMsgs ms).pool.rx = s.pool.rx ∧ (s.freeTxMsgs ms).pool.reserved = s.pool.reserved
    ∧ (s.freeTxMsgs ms).pool.creditOwed = s.pool.creditOwed := freeTx_foldl ms s.pool

/-! ## What a grant and the serving of the credit-owed list do -/

/-- Writing a link record back as it is changes nothing. -/
theorem setLink_self {s : State} {l : LinkId} {k : Link} (h : k = s.link l) : s.setLink l k = s := by subst h; simp

/-- A grant above 0 (R100): rx granted and R rise, and CREDIT is owed unless CLOSE is. -/
theorem raiseGrant_eq (s : State) (i : ChanId) {g : Nat} (h : g ≠ 0) :
    s.raiseGrant i g =
      if (s.chan i).owed.close.isSome then
        (s.setChan i { s.chan i with rxGranted := (s.chan i).rxGranted + BitVec.ofNat 8 g }).setPool (s.pool.reserve g)
      else
        ((s.setChan i { s.chan i with
            rxGranted := (s.chan i).rxGranted + BitVec.ofNat 8 g, owed := { (s.chan i).owed with credit := true } }).setPool
          (s.pool.reserve g)).setLink (s.chan i).link
          { s.link (s.chan i).link with
            ready := if (s.chan i).owed = {} then (s.link (s.chan i).link).ready ++ [i] else (s.link (s.chan i).link).ready } := by
  have ne : ({ (s.chan i).owed with credit := true } : Owed) ≠ {} := by simp
  simp only [State.raiseGrant, if_neg h, State.oweCredit, chan_setPool, chan_setChan]
  split
  · rfl
  · simp only [setOwed_eq, chan_setPool, chan_setChan, link_setPool, link_setChan, readyAfter_eq]
    by_cases he : (s.chan i).owed = {}
    · simp [he, setPool_setChan]
    · simp [he, setPool_setChan]

/-- What serving the credit-owed list may change (R101): new grants of the OPEN records on it, their ids at the tails of control-ready
lists, R, and the list itself, of which a tail stays. -/
structure Served (q : List ChanId) (s u : State) : Prop where
  chans : ∀ j, (u.chan j).grantedFrom (s.chan j)
  others : ∀ j, j ∉ q ∨ (s.chan j).state ≠ .opened → u.chan j = s.chan j
  links : ∀ l, ∃ extra : List ChanId, u.link l = { s.link l with ready := (s.link l).ready ++ extra }
    ∧ ∀ j ∈ extra, j ∈ q ∧ (s.chan j).state = .opened ∧ (s.chan j).link = l ∧ (s.chan j).owed = {} ∧ (u.chan j).owed.credit = true
  free : u.pool.free = s.pool.free
  rx : u.pool.rx = s.pool.rx
  usage : u.pool.usage = s.pool.usage
  rest : u.pool.creditOwed <:+ q
  done : u.pool.creditOwed = [] ∨ u.pool.unreserved = 0

theorem Served.refl_of {q r : List ChanId} {s : State} (hr : r <:+ q) (hd : r = [] ∨ s.pool.unreserved = 0) :
    Served q s (s.setCreditOwed r) where
  chans _ := ⟨0, by simp, rfl⟩
  others _ _ := rfl
  links l := ⟨[], by simp [State.setCreditOwed]⟩
  free := rfl
  rx := rfl
  usage := rfl
  rest := hr
  done := hd

theorem Chan.grantedFrom_refl (c : Chan) : c.grantedFrom c := ⟨0, by simp, rfl⟩

theorem Chan.grantedFrom.trans {a b c : Chan} (h1 : b.grantedFrom a) (h2 : c.grantedFrom b) : c.grantedFrom a := by
  obtain ⟨g, o1, e1⟩ := h1
  obtain ⟨k, o2, e2⟩ := h2
  by_cases hg : g = 0
  · subst hg; simp only [if_true] at e1; subst e1; exact ⟨k, o2, e2⟩
  by_cases hk : k = 0
  · subst hk; simp only [if_true] at e2; subst e2; exact ⟨g, o1, e1⟩
  refine ⟨g + k, fun _ => o1 hg, ?_⟩
  have hgk : g + k ≠ 0 := by omega
  simp only [hg, hk, hgk, if_false] at e1 e2 ⊢
  subst e1 e2
  simp [BitVec.ofNat_add, BitVec.add_assoc]

theorem Chan.grantedFrom.state {a b : Chan} (h : b.grantedFrom a) : b.state = a.state := by
  obtain ⟨g, -, rfl⟩ := h; split <;> rfl

theorem Chan.grantedFrom.link {a b : Chan} (h : b.grantedFrom a) : b.link = a.link := by
  obtain ⟨g, -, rfl⟩ := h; split <;> rfl

/-- A CREDIT owed stays owed. -/
theorem Chan.grantedFrom.credit {a b : Chan} (h : b.grantedFrom a) (ha : a.owed.credit = true) : b.owed.credit = true := by
  obtain ⟨g, -, rfl⟩ := h; split <;> simp [ha]

/-- A record that owes nothing after a grant owed nothing before. -/
theorem Chan.grantedFrom.quiet {a b : Chan} (h : b.grantedFrom a) (hb : b.owed = {}) : a.owed = {} := by
  obtain ⟨g, -, rfl⟩ := h
  split at hb
  · exact hb
  · rcases ho : a.owed with ⟨o1, o2, o3, o4⟩
    rw [ho] at hb
    cases o4 <;> simp at hb ⊢

/-- What a grant changes (R100). -/
theorem raiseGrant_spec (s : State) (i : ChanId) (g : Nat) (ho : g ≠ 0 → (s.chan i).state = .opened) :
    (∀ j, ((s.raiseGrant i g).chan j).grantedFrom (s.chan j))
    ∧ (∀ j, j ≠ i ∨ g = 0 → (s.raiseGrant i g).chan j = s.chan j)
    ∧ (∀ l, ∃ extra : List ChanId, (s.raiseGrant i g).link l = { s.link l with ready := (s.link l).ready ++ extra }
      ∧ ∀ j ∈ extra, j = i ∧ g ≠ 0 ∧ (s.chan j).link = l ∧ (s.chan j).owed = {} ∧ ((s.raiseGrant i g).chan j).owed.credit = true)
    ∧ (s.raiseGrant i g).pool = { s.pool with reserved := s.pool.reserved + g } := by
  by_cases h : g = 0
  · subst h
    simp only [State.raiseGrant, if_true]
    exact ⟨fun _ => Chan.grantedFrom_refl _, by simp, fun l => ⟨[], by simp⟩, rfl⟩
  · rw [raiseGrant_eq s i h]
    split <;> rename_i hc
    · refine ⟨fun j => ?_, fun j hj => ?_, fun l => ⟨[], by simp⟩, rfl⟩
      · simp only [chan_setPool, chan_setChan_ite]; split
        · rename_i e; subst e
          refine ⟨g, ho, ?_⟩
          have : (s.chan j).owed.close.isNone = false := by simpa [← Option.not_isSome] using hc
          simp [h, this]
        · exact Chan.grantedFrom_refl _
      · rw [chan_setPool, chan_setChan_ne _ _ (hj.resolve_right h)]
    · replace hc : (s.chan i).owed.close = none := by simpa using hc
      refine ⟨fun j => ?_, fun j hj => ?_, fun l => ?_, rfl⟩
      · simp only [chan_setLink, chan_setPool, chan_setChan_ite]; split
        · rename_i e; subst e; exact ⟨g, ho, by simp [h, hc]⟩
        · exact Chan.grantedFrom_refl _
      · rw [chan_setLink, chan_setPool, chan_setChan_ne _ _ (hj.resolve_right h)]
      · by_cases hl : l = (s.chan i).link
        · subst hl
          by_cases he : (s.chan i).owed = {}
          · exact ⟨[i], by simp [he, h]⟩
          · exact ⟨[], by simp [he]⟩
        · exact ⟨[], by simp [hl]⟩

/-- What serving the ids of the credit-owed list does (R101). -/
theorem serveList_served (q : List ChanId) (s : State) : Served q s (State.serveList q s) := by
  induction q generalizing s with
  | nil => exact Served.refl_of List.suffix_rfl (Or.inl rfl)
  | cons i rest ih =>
    simp only [State.serveList]
    by_cases hz : s.pool.unreserved = 0
    · simp only [hz, if_true]; exact Served.refl_of List.suffix_rfl (Or.inr hz)
    simp only [hz, if_false]
    generalize hg : min (s.chan i).openWant s.pool.unreserved = g
    have ho : g ≠ 0 → (s.chan i).state = .opened := by
      intro h; by_contra hn; simp [Chan.openWant, hn] at hg; exact h hg.symm
    obtain ⟨c1, c2, c3, c4⟩ := raiseGrant_spec s i g ho
    have c5 : ∀ j, j ∉ i :: rest ∨ (s.chan j).state ≠ .opened → (s.raiseGrant i g).chan j = s.chan j := by
      intro j hj
      refine c2 j ?_
      by_cases e : j = i
      · subst e
        rcases hj with hj | hj
        · simp at hj
        · right; by_contra hn; exact hj (ho hn)
      · exact Or.inl e
    split
    · refine ⟨c1, c5, fun l => ?_, ?_, ?_, ?_, List.suffix_rfl, ?_⟩
      · obtain ⟨ex, e1, e2⟩ := c3 l
        refine ⟨ex, e1, fun j hj => ?_⟩
        obtain ⟨rfl, h2, h3, h4, h5⟩ := e2 j hj
        exact ⟨by simp, ho h2, h3, h4, h5⟩
      · show (s.raiseGrant i g).pool.free = _; rw [c4]
      · show (s.raiseGrant i g).pool.rx = _; rw [c4]
      · show (s.raiseGrant i g).pool.usage = _; rw [c4]
      · right
        show (s.raiseGrant i g).pool.unreserved = 0
        rw [c4]; simp only [Pool.unreserved] at *; omega
    · have hs := ih (s.raiseGrant i g)
      refine ⟨fun j => (c1 j).trans (hs.chans j), fun j hj => ?_, fun l => ?_, ?_, ?_, ?_, hs.rest.trans (List.suffix_cons i rest), hs.done⟩
      · rw [hs.others j, c5 j hj]
        rcases hj with hj | hj
        · exact Or.inl fun hm => hj (List.mem_cons_of_mem _ hm)
        · rw [c5 j (Or.inr hj)]; exact Or.inr hj
      · obtain ⟨ex, e1, e2⟩ := c3 l
        obtain ⟨ex', f1, f2⟩ := hs.links l
        refine ⟨ex ++ ex', by rw [f1, e1]; simp, fun j hj => ?_⟩
        rcases List.mem_append.mp hj with hj | hj
        · obtain ⟨rfl, h2, h3, h4, h5⟩ := e2 j hj
          exact ⟨by simp, ho h2, h3, h4, (hs.chans j).credit h5⟩
        · obtain ⟨g1, g2, g3, g4, g5⟩ := f2 j hj
          exact ⟨List.mem_cons_of_mem _ g1, (c1 j).state ▸ g2, (c1 j).link ▸ g3, (c1 j).quiet g4, g5⟩
      · rw [hs.free, c4]
      · rw [hs.rx, c4]
      · rw [hs.usage, c4]

/-- What serving the credit-owed list does (R101). -/
theorem serve_served (s : State) : Served s.pool.creditOwed s s.serve := serveList_served _ s

end Sys2Proof.Machine
end

