-- ==== Sys2Proof/Laws/Requests.lean ====
section
/-! SUPPORT. How a transaction command and a request run: the one lemma per shared operation of HostPort.lean. -/

namespace Sys2Proof.Machine

/-- A command that ends a transaction whose state the row takes (R150). -/
theorem endTransaction_run {s : State} {p : Slot} {n : Nat} {act : Txn → Option State} {t : State}
    (live : s.portLive p = true) (low : (s.port p).csLow = true) (txn : (s.port p).txn ≠ .ignore)
    (h : act (s.port p).txn = some t) : s.endTransaction p n act = .next t := by
  simp [State.endTransaction, live, low, txn, h]

/-- A command that completes bytes of a transaction whose state the row takes (R150). -/
theorem midTransaction_run {s : State} {p : Slot} {n : Nat} {act : Txn → Option State} {t : State}
    (live : s.portLive p = true) (low : (s.port p).csLow = true) (txn : (s.port p).txn ≠ .ignore)
    (h : act (s.port p).txn = some t) : s.midTransaction p n act = .next t := by
  simp [State.midTransaction, live, low, txn, h]

theorem updPort_rise (s : State) (p : Slot) (h : ReqHeader) (r : Reply) (n : Nat) :
    (s.updPort p fun x => x.respond h r).rise p (zeros n) = s.reply p h r n := by
  simp [State.updPort, State.rise, State.reply, HostPort.respond, HostPort.answered]

/-- A request of its own row is taken (R154 to R156): the common checks, then the command, then the response. -/
theorem request_run {s : State} {p : Slot} {h : ReqHeader} {st : Staging} {row : Byte → Bool} {body : List Byte} {act : Action}
    (w : s.Writing p h st) (hr : row h.code = true) :
    s.request p row body act = .next
      (match commonCheck h body.length (decide ((s.port p).session = .attached)) with
        | some r => (s.freeStaged p st).reply p h (refusedReply r) body.length
        | none => (act h st s).1.reply p h (act h st s).2 body.length) := by
  have e := w.txn
  unfold State.request
  rw [endTransaction_run (t := s.answerRequest p h st body act) w.live w.low (by rw [e]; simp) (by simp [e, hr])]
  simp only [State.answerRequest, updPort_rise]
  cases commonCheck h body.length (decide ((s.port p).session = .attached)) <;> rfl

/-- A request that passes the common checks (R155). -/
theorem request_taken {s : State} {p : Slot} {code : Byte} {h : ReqHeader} {st : Staging} {row : Byte → Bool} {body : List Byte}
    {act : Action} (w : s.Requests p code body h st) (hr : row code = true) (hk : knownCode code = true)
    (hl : acceptsLength code body.length = true) :
    s.request p row body act = .next ((act h st s).1.reply p h (act h st s).2 body.length) := by
  have hc : commonCheck h body.length (decide ((s.port p).session = .attached)) = none := by
    simp [commonCheck, w.code, w.whole, w.attached, hk, hl]
  rw [request_run w.toWriting (by rw [w.code]; exact hr), hc]

/-- A request that passes the common checks, whose command leaves `u` and answers `r`. -/
theorem request_answers {s u : State} {p : Slot} {code : Byte} {h : ReqHeader} {st : Staging} {row : Byte → Bool} {body : List Byte}
    {act : Action} {r : Reply} (w : s.Requests p code body h st) (hr : row code = true) (hk : knownCode code = true)
    (hl : acceptsLength code body.length = true) (ha : act h st s = (u, r)) :
    s.request p row body act = .next (u.reply p h r body.length) := by
  rw [request_taken w hr hk hl, ha]

@[simp] theorem reply_port (s : State) (p : Slot) (h : ReqHeader) (r : Reply) (n : Nat) :
    (s.reply p h r n).port p = (s.port p).answered h r n := by simp [State.reply]

/-! ## The row of a command code (Table 9-3) -/

section RequestOf
variable (p : Slot) (body : List Byte)
@[simp] theorem requestOf_attach : requestOf 0x01#8 p body = .attach p body := rfl
@[simp] theorem requestOf_detach : requestOf 0x02#8 p body = .detach p body := rfl
@[simp] theorem requestOf_linkStart : requestOf 0x10#8 p body = .linkStart p body := rfl
@[simp] theorem requestOf_linkStop : requestOf 0x11#8 p body = .linkStop p body := rfl
@[simp] theorem requestOf_linkClaim : requestOf 0x12#8 p body = .linkClaim p body := rfl
@[simp] theorem requestOf_linkQuery : requestOf 0x13#8 p body = .linkQuery p body := rfl
@[simp] theorem requestOf_chListen : requestOf 0x20#8 p body = .chListen p body := rfl
@[simp] theorem requestOf_chOpen : requestOf 0x21#8 p body = .chOpen p body := rfl
@[simp] theorem requestOf_chClose : requestOf 0x22#8 p body = .chClose p body := rfl
@[simp] theorem requestOf_chRelease : requestOf 0x23#8 p body = .chRelease p body := rfl
@[simp] theorem requestOf_chQuery : requestOf 0x24#8 p body = .chQuery p body := rfl
@[simp] theorem requestOf_send : requestOf 0x30#8 p body = .send p body := rfl
@[simp] theorem requestOf_recv : requestOf 0x31#8 p body = .recv p body := rfl
@[simp] theorem requestOf_poolQuery : requestOf 0x40#8 p body = .poolQuery p body := rfl
end RequestOf

/-- A code outside Table 9-3 belongs to UNKNOWN_COMMAND. -/
theorem requestOf_unknown {code : Byte} (p : Slot) (body : List Byte) (h : knownCode code = false) :
    requestOf code p body = .unknownCommand p body := by
  simp [knownCode] at h
  simp [requestOf, h]

/-- The codes of Table 9-3, one by one. -/
theorem knownCode_cases {code : Byte} (h : knownCode code = true) :
    code = 0x01#8 ∨ code = 0x02#8 ∨ code = 0x10#8 ∨ code = 0x11#8 ∨ code = 0x12#8 ∨ code = 0x13#8 ∨ code = 0x20#8
      ∨ code = 0x21#8 ∨ code = 0x22#8 ∨ code = 0x23#8 ∨ code = 0x24#8 ∨ code = 0x30#8 ∨ code = 0x31#8 ∨ code = 0x40#8 := by
  simpa [knownCode] using h

/-- The two readings of Table 9-3 agree. -/
theorem acceptsLength_eq {code : Byte} {f : Nat → Bool} (h : acceptedLengths code = some f) (n : Nat) :
    knownCode code = true ∧ acceptsLength code n = f n := by
  have e : code = BitVec.ofNat 8 code.toNat := by simp
  unfold acceptedLengths at h
  split at h <;> rename_i heq
  all_goals first
    | (rw [heq] at e; subst e; simp at h; subst h; exact ⟨by decide, by simp [acceptsLength]⟩)
    | cases h

theorem knownCode_of_lengths {code : Byte} (h : acceptedLengths code = none) : knownCode code = false := by
  cases hk : knownCode code with
  | false => rfl
  | true => rcases knownCode_cases hk with e | e | e | e | e | e | e | e | e | e | e | e | e | e <;> subst e <;> cases h

end Sys2Proof.Machine
end

