-- ==== Sys2Proof/Tests/Slice0.lean ====
section
/-! SUPPORT. Tests of single steps, with expected values from the spec (the rule or section is named in each comment), and for every
statement with hypotheses a named witness: a concrete state and operands that meet them. -/

namespace Sys2Proof.Tests
open Sys2Proof.Machine

/-! ## States for the tests -/

/-- The step goes on, and what it leaves passes a check. -/
def leaves (o : Host.Outcome State Fault Refusal) (check : State → Bool) : Bool :=
  match o with
  | .next t => check t
  | .fault _ => false
  | .refused _ => false

def refusedWith (o : Host.Outcome State Fault Refusal) (r : Refusal) : Bool :=
  match o with
  | .refused q => q == r
  | .next _ => false
  | .fault _ => false

/-- A link that is UP with host 0 as its controller, agreed window 8. -/
def upLink : Link :=
  { state := .up, params := some (Params.defaults .active), ownEpoch := 1#8, peerEpoch := some 9#8, agreed := some 8,
    controller := some 0, tIdle := some 5000 }

/-- A STARTING link whose LINK-OPEN has been sent, with own epoch 1. -/
def startingLink : Link := { params := some (Params.defaults .active), state := .starting, ownEpoch := 1#8, tResp := some 200 }

def upLine : LinePort := { enabled := true, rate := some 7, charRate := some 7, rx := .hunt, lineReady := some true }

/-- Link 0 with record `k`, its line port enabled. -/
def onLine (k : Link) : State := (State.reset.setLink 0 k).setLine 0 upLine

/-- Link 0 UP, and channel record 3 as given. -/
def up (c : Chan) : State := (onLine upLink).setChan 3 c

/-- An OPEN record of host 0, paired with the peer's channel 5, with 4 blocks of credit both ways. -/
def openChan : Chan :=
  { state := .opened, remote := some 5, rxWindow := 4, peerWindow := 4, txLimit := 4#8, rxGranted := 4#8 }

def openingChan (o : Owed) : Chan := { state := .opening, remote := some 5, rxWindow := 4, rxGranted := 4#8, owed := o }
def listenChan : Chan := { state := .listen, rxWindow := 4 }
def abortingChan (sent : Bool) : Chan :=
  { state := .aborting, remote := some 5, rxWindow := 4, closeSent := sent, owed := if sent then {} else { close := some true } }

/-- `s` with one frame held by line port 0. -/
def hearing (s : State) (f : Frame) : State := s.setLine 0 { s.line 0 with held := [f] }

/-- A sequenced frame with ns 0 and nr 0 from the peer's channel 5 to record 3. -/
def inSequence (c : Content) : Frame := .seq 0 0 3 5 c

/-- `s` with port 0 in a transaction. -/
def inTxn (s : State) (t : Txn) : State := s.setPort 0 { session := .attached, csLow := true, txn := t }

/-- The header of a request with `n` body bytes. -/
def header (code : Byte) (n : Nat) : ReqHeader := { tag := 7#8, code, len := BitVec.ofNat 16 n }

/-- `s` with port 0 at the end of the write of a request. -/
def writing (s : State) (code : Byte) (n : Nat) (st : Staging := .none) (session : Session := .attached) : State :=
  s.setPort 0 { session, csLow := true, txn := .writeBody (header code n) st }

/-- The last response that port 0 holds. -/
def answer (t : State) : Option (Result × List Byte) := (t.port 0).responses.getLast?.map fun r => (r.result, r.body)

section Steps
-- The kernel evaluates these steps one after another, each in the memory of the one before.
set_option Elab.async false

/-! ## Well-formed commands, and the words of the table -/

theorem test_smoke_wellFormed : (Instr.frameBodyStart 0 0xA5#8).wellFormed = false
    ∧ (Instr.frameBodyStart 0 0x11#8).wellFormed = true := by decide

/-- A character without its stop bit, and one with a spacing level before it that only a receiver that waits for marking passes over. -/
theorem test_smoke_wellFormed_levels : (Instr.bodyCharacter 0 (true :: (charLevels 0x11#8).dropLast)).wellFormed = false
    ∧ (Instr.bodyCharacter 0 (false :: true :: charLevels 0x11#8)).wellFormed = true
    ∧ (Instr.bodyCharacter 0 (charLevels 0x11#8 ++ charLevels 0x11#8)).wellFormed = false := by decide

/-- The table gives its rows no bits (log entry 20). -/
theorem test_no_row_has_bits : decodeTableWord 8 0 = none ∧ State.reset.withFetchWord 16 1 = State.reset := by decide

/-! ## Line format -/

/-- R138: start bit, the data bits of H'A5 least significant first, stop bit; a stop bit at the spacing level, and a spacing level that
goes on, is one framing error. -/
theorem test_levels : charLevels 0xA5#8 = [false, true, false, true, false, false, true, false, true, true]
    ∧ Sampler.ready.read ([true] ++ charLevels 0xA5#8 ++ charLevels 0x11#8) = (.ready, [.byte 0xA5#8, .byte 0x11#8])
    ∧ Sampler.ready.read (List.replicate 25 false) = (.waiting, [.framingError]) := by decide

/-- R138: at rate code 0 a character takes 1.042 ms, at rate code 7 3.2 µs. -/
theorem test_pace : pace (some 0) = 96 ∧ pace (some 7) = 31250 := by decide

/-- R138: after a change from 9600 to 19200 bit/s the character in progress ends at the old rate. -/
theorem test_rate_change : ({ upLine with rate := some 1, charRate := some 0, phase := 52 } : LinePort).sendOn
    = { upLine with rate := some 1, charRate := some 1, phase := 96 } := by decide

/-- R141: a DATA frame with five characters begun is cut off there, a LINK-CLOSE completes; what is left on LTXDn is one H'A5. -/
theorem test_toldTeardown :
    let x (f : Frame) : LinePort := { upLine with tx := some { frame := f, begun := 5 } }
    (x (inSequence (.data [1#8]))).toldTeardown.tx = some { frame := inSequence (.data [1#8]), begun := 5, cut := some 5 }
    ∧ (x (inSequence (.data [1#8]))).toldTeardown.output = .frame [0xA5#8, 0x40#8, 0#8, 0#8, 3#8] [0xA5#8]
    ∧ (x .linkClose).toldTeardown = x .linkClose ∧ ({} : LinePort).output = .marking ∧ upLine.output = .idleFill := by decide +kernel

/-- The note to R139: the CRC of the text 123456789 is H'FEE8. -/
theorem test_crc : crc16 [0x31#8, 0x32#8, 0x33#8, 0x34#8, 0x35#8, 0x36#8, 0x37#8, 0x38#8, 0x39#8] = 0xFEE8#16 := by decide +kernel

/-- Chapter 8, example: a LINK-OPEN with epoch H'A5 and window 8 on the line. -/
theorem test_linkOpen_on_line : (Frame.linkOpen 0xA5#8 8).lineChars
    = [0xA5#8, 0x11#8, 0x5A#8, 0x85#8, 0x08#8, 0x5F#8, 0x6D#8, 0xA5#8] := by decide +kernel

/-- R144, R145: too short, a CRC that differs, an epoch of 0. -/
theorem test_body_checks : checkBody [0x13#8, 0x13#8] = .crcError ∧ checkBody [0x13#8, 0#8, 0#8] = .crcError
    ∧ checkBody ([0x11#8, 0#8, 8#8] ++ crcBytes [0x11#8, 0#8, 8#8]) = .formatError
    ∧ checkBody [0x11#8, 0xA5#8, 0x08#8, 0x5F#8, 0x6D#8] = .good (.linkOpen 0xA5#8 8) := by decide +kernel

/-! ## One step of each command -/

theorem test_attach : leaves (exec (.attach 0 []) (writing State.reset 0x01#8 0 .none .detached))
    (fun t => (t.port 0).session == .attached
      && answer t == some (.ok, [0#8, 1#8, 4#8, 0#8, 0#8, 192#8, 32#8, 2#8])) = true := by decide

/-- R158: an ATTACH on an ATTACHED port is refused BAD-STATE. -/
theorem test_attach_again : leaves (exec (.attach 0 []) (writing State.reset 0x01#8 0))
    (fun t => answer t == some (.badState, [])) = true := by decide

/-- R159, R135, R122: an OPEN record of the slot is aborted; its CLOSE is taken at once by the idle transmitter (R73). -/
theorem test_detach : leaves (exec (.detach 0 []) (writing (up openChan) 0x02#8 0))
    (fun t => (t.port 0).session == .detached && (t.chan 3).state == .aborting && (t.chan 3).closeSent == true
      && (t.link 0).controller == none && (t.link 0).vs == 1#5) = true := by decide +kernel

/-- 11.2: the short form, ACTIVE; the own epoch goes from 0 to 1 and the LINK-OPEN is taken at once. -/
theorem test_linkStart : leaves (exec (.linkStart 0 [0#8, 0#8]) (writing State.reset 0x10#8 2))
    (fun t => (t.link 0).state == .starting && (t.link 0).tResp == some 200
      && (t.line 0).tx.map TxSlot.frame == some (.linkOpen 1#8 8) && answer t == some (.ok, [1#8])) = true := by decide

/-- R28: a window offer of 17 is BAD-ARG. -/
theorem test_linkStart_range :
    leaves (exec (.linkStart 0 [0#8, 0#8, 17#8, 7#8, 20#8, 0#8, 200#8, 0#8, 0#8, 5#8]) (writing State.reset 0x10#8 10))
    (fun t => answer t == some (.badArg, [])) = true := by decide

theorem test_linkStop : leaves (exec (.linkStop 0 [0#8]) (writing (up openChan) 0x11#8 1))
    (fun t => (t.link 0).state == .stopping && (t.link 0).tResp == some 200 && (t.chan 3).state == .ended
      && (t.chan 3).endReason == some .stopped && (t.line 0).tx.map TxSlot.frame == some .linkClose) = true := by decide +kernel

theorem test_linkClaim : leaves (exec (.linkClaim 0 [0#8]) (writing (onLine { upLink with controller := none }) 0x12#8 1))
    (fun t => (t.link 0).controller == some 0) = true := by decide

/-- Table 10-10: 43 bytes; the state is the second, the controller the third. -/
theorem test_linkQuery : leaves (exec (.linkQuery 0 [0#8]) (writing (onLine upLink) 0x13#8 1))
    (fun t => ((answer t).map fun r => (r.2.length, r.2.take 5)) == some (43, [0#8, 3#8, 0#8, 0#8, 8#8])) = true := by decide

theorem test_chListen : leaves (exec (.chListen 0 [255#8, 0#8, 255#8, 4#8, 1#8]) (writing State.reset 0x20#8 5))
    (fun t => (t.chan 0).state == .listen && (t.chan 0).remote == none && (t.chan 0).cls == .urgent
      && answer t == some (.ok, [0#8])) = true := by decide

/-- 11.3: local id 5, remote id 12, rx window 4; the CHAN-OPEN is taken at once with ns 0. -/
theorem test_chOpen : leaves (exec (.chOpen 0 [5#8, 0#8, 12#8, 4#8, 0#8]) (writing (onLine upLink) 0x21#8 5))
    (fun t => (t.chan 5).state == .opening && (t.chan 5).owed == {} && t.pool.reserved == 4
      && (t.line 0).tx.map TxSlot.frame == some (.seq 0 0 12 5 (.ctl (.opn 4))) && (t.link 0).tResp == some 200
      && (t.link 0).tIdle == none) = true := by decide

/-- R7: on a link that is not UP, LINK-NOT-UP. -/
theorem test_chOpen_down : leaves (exec (.chOpen 0 [5#8, 0#8, 12#8, 4#8, 0#8]) (writing State.reset 0x21#8 5))
    (fun t => answer t == some (.linkNotUp, [])) = true := by decide

theorem test_chClose : leaves (exec (.chClose 0 [3#8]) (writing (up openChan) 0x22#8 1))
    (fun t => (t.chan 3).state == .closing && (t.chan 3).closeSent == true
      && (t.line 0).tx.map TxSlot.frame == some (.seq 0 0 5 3 (.ctl (.close false)))) = true := by decide

theorem test_chRelease : leaves (exec (.chRelease 0 [3#8]) (writing (up openChan) 0x23#8 1))
    (fun t => (t.chan 3).state == .aborting && answer t == some (.ok, [0#8, 0#8])
      && (t.line 0).tx.map TxSlot.frame == some (.seq 0 0 5 3 (.ctl (.close true)))) = true := by decide

/-- Table 10-11: 19 bytes; id, state, owner, link, remote id. -/
theorem test_chQuery : leaves (exec (.chQuery 0 [3#8]) (writing (up openChan) 0x24#8 1))
    (fun t => ((answer t).map fun r => (r.2.length, r.2.take 5)) == some (19, [3#8, 3#8, 0#8, 0#8, 5#8])) = true := by decide

/-- R85: the DATA is taken at once and tx used rises by its blocks. -/
theorem test_send : leaves (exec (.send 0 [3#8, 9#8, 1#8, 0x55#8]) (writing (up openChan) 0x30#8 4 (.granted 1)))
    (fun t => (t.chan 3).sendQ.length == 0 && (t.chan 3).txUsed == 1#8
      && (t.line 0).tx.map TxSlot.frame == some (.seq 0 0 5 3 (.data [0x55#8]))
      && answer t == some (.ok, [1#8])) = true := by decide

/-- R109: a claim refused NO-BUFFER at the header is answered at the end. -/
theorem test_send_refused : leaves (exec (.send 0 [3#8, 9#8, 1#8, 0x55#8]) (writing (up openChan) 0x30#8 4 (.refused .noBuffer)))
    (fun t => answer t == some (.noBuffer, [])) = true := by decide

/-- R117, R100: the want of 1 block is granted and its CREDIT is taken at once. -/
theorem test_recv : leaves (exec (.recv 0 [3#8])
      (writing (up { openChan with rxConsumed := 1#8, rxHeld := 1, recvQ := [{ channel := 3, payload := [1#8, 2#8] }] }) 0x31#8 1))
    (fun t => (t.chan 3).rxHeld == 0 && (t.chan 3).rxGranted == 5#8 && answer t == some (.ok, [3#8, 0#8, 0#8, 2#8])
      && (t.line 0).tx.map TxSlot.frame == some (.seq 0 0 5 3 (.ctl (.credit 5#8)))) = true := by decide

/-- Table 10-13: pool blocks and FREE are both 1024 after reset, and the quota is 192. -/
theorem test_poolQuery : leaves (exec (.poolQuery 0 []) (writing State.reset 0x40#8 0))
    (fun t => answer t == some (.ok, [4#8, 0#8, 4#8, 0#8, 0#8, 0#8, 0#8, 0#8, 0#8, 0#8, 4#8, 0#8, 0#8, 0#8, 0#8, 192#8, 0#8])) = true := by decide

theorem test_unknownCommand : leaves (exec (.unknownCommand 0 [1#8]) (writing State.reset 0x99#8 1))
    (fun t => answer t == some (.unknown, [])) = true := by decide

/-- R155: LENGTH comes before UNKNOWN. -/
theorem test_unknownCommand_length : leaves (exec (.unknownCommand 0 [1#8]) (writing State.reset 0x99#8 2))
    (fun t => answer t == some (.length, [])) = true := by decide

/-- R151: DROP is cleared by the status byte that carries it. -/
theorem test_transactionCode : leaves (exec (.transactionCode 0 0x01#8) (State.reset.setPort 0
      { drop := true, csLow := true, txn := .code 0x20#8 }))
    (fun t => (t.port 0).drop == false && (t.port 0).txn == .statusTail 0
      && (t.port 0).hso == [0x20#8]) = true := by decide

theorem test_statusTransaction : leaves (exec (.statusTransaction 0 2) (inTxn State.reset (.statusTail 3)))
    (fun t => (t.port 0).hso == [3#8, 0#8]) = true := by decide

/-- R92, R108: a SEND of 65 payload bytes stages 2 blocks. R166: the length is high byte first. -/
theorem test_writeRequestHeader : leaves (exec (.writeRequestHeader 0 7#8 0x30#8 (0#8, 68#8)) (inTxn State.reset .writeHeader))
    (fun t => t.pool.free == 1022 && t.pool.usage[0] == 2 && (t.port 0).txn.staging == .granted 65) = true
    ∧ leaves (exec (.writeRequestHeader 0 7#8 0x30#8 (1#8, 3#8)) (inTxn State.reset .writeHeader))
    (fun t => (t.port 0).txn.staging == .granted 256) = true := by decide

/-- R157: a response read one byte short stays. -/
theorem test_readResponse :
    let s := State.reset.setPort 0
      { session := .attached, csLow := true, responses := [⟨7#8, 0x40#8, .ok, [1#8], none⟩],
        txn := .readResponse (some ⟨7#8, 0x40#8, .ok, [1#8], none⟩) }
    leaves (exec (.readResponse 0 5) s) (fun t => (t.port 0).responses.length == 1) = true
    ∧ leaves (exec (.readResponse 0 7) s)
    (fun t => (t.port 0).responses.length == 0
      && (t.port 0).hso == [7#8, 0x40#8, 0#8, 0#8, 1#8, 1#8, 0#8]) = true := by decide

/-- R163: an OVERFLOW record into which 2 posts were counted during the read stays with arg 2. -/
theorem test_readEvent : leaves (exec (.readEvent 0 6) (State.reset.setPort 0
      { session := .attached, csLow := true, events := [overflowRecord 5], txn := .readEvent (some (overflowRecord 3)) 2 }))
    (fun t => (t.port 0).events == [overflowRecord 2]
      && (t.port 0).hso == [15#8, 0#8, 0#8, 0#8, 0#8, 3#8]) = true := by decide

/-- R160: a staged message is freed. -/
theorem test_hostPortReset : leaves (exec (.hostPortReset 0) ((writing State.reset 0x30#8 68 (.granted 65)).setPool
      { free := 1022, usage := #v[2, 0, 0] }))
    (fun t => t.pool.free == 1024 && t.pool.usage[0] == 0 && (t.port 0).session == .reset
      && (t.port 0).txn == .ignore) = true := by decide +kernel

theorem test_hostPortResetRelease : leaves (exec (.hostPortResetRelease 0) (State.reset.setPort 0
      { session := .reset, hrstLow := true, csLow := true, txn := .ignore }))
    (fun t => t.port 0 == { session := .detached, csLow := true, txn := .ignore }) = true := by decide

theorem test_deviceReset : leaves (exec .deviceReset (up openChan))
    (fun t => t.resetLow == true && t.chan 3 == {} && t.link 0 == {}) = true := by decide

theorem test_deviceResetRelease : leaves (exec .deviceResetRelease { State.reset with resetLow := true })
    (fun t => t.resetLow == false && (t.port 0).session == .detached) = true := by decide +kernel

/-- R43, R147: a loss in UP tears the link down and enters FAILED(LINE-LOST). -/
theorem test_lineReadyDeasserted : leaves (exec (.lineReadyDeasserted 0) (up openChan))
    (fun t => (t.link 0).state == .failed && (t.link 0).lastReason == some .lineLost
      && (t.chan 3).endReason == some .lineLost) = true := by decide +kernel

theorem test_lineReadyAsserted : leaves (exec (.lineReadyAsserted 0) (State.reset.setLine 0 { upLine with lineReady := none }))
    (fun t => (t.line 0).lineReady == some true) = true
    ∧ leaves (exec (.lineReadyAsserted 0) (State.reset.setLine 0 { lrdy := false })) (fun t => t.line 0 == {}) = true := by decide

theorem test_frameBodyStart : leaves (exec (.frameBodyStart 0 0x13#8) (State.reset.setLine 0 { upLine with rx := .gap }))
    (fun t => (t.line 0).rx == .body && (t.line 0).filling == some [0x13#8]) = true := by decide

/-- R143: with both buffers held the frame is an overrun. -/
theorem test_frameBodyStart_overrun :
    leaves (exec (.frameBodyStart 0 0x13#8) (State.reset.setLine 0 { upLine with rx := .gap, held := [.linkClose, .linkClose] }))
    (fun t => (t.line 0).rx == .hunt && (t.link 0).counters.overruns == 1#16) = true := by decide

theorem test_frameEnd : leaves (exec (.frameEnd 0) (State.reset.setLine 0
      { upLine with rx := .body, filling := some [0x11#8, 0xA5#8, 0x08#8, 0x5F#8, 0x6D#8] }))
    (fun t => (t.line 0).held == [.linkOpen 0xA5#8 8] && (t.line 0).rx == .gap
      && (t.link 0).counters.goodFrames == 1#16) = true := by decide +kernel

theorem test_huntDelimiter : leaves (exec (.huntDelimiter 0) (State.reset.setLine 0 upLine))
    (fun t => (t.line 0).rx == .gap) = true := by decide

theorem test_bodyCharacter : leaves (exec (.bodyCharacter 0 (true :: charLevels 0x85#8)) (State.reset.setLine 0
      { upLine with rx := .escape, filling := some [0x11#8] }))
    (fun t => (t.line 0).rx == .body && (t.line 0).filling == some [0x11#8, 0xA5#8]) = true := by decide

/-- R138, R142: a long spacing level in BODY discards the frame once, as a CRC error, and the receiver waits for the marking level. -/
theorem test_bodyCharacter_framing : leaves (exec (.bodyCharacter 0 (List.replicate 40 false)) (State.reset.setLine 0
      { upLine with rx := .body, filling := some [0x11#8] }))
    (fun t => (t.line 0).rx == .hunt && (t.line 0).rxWait && (t.line 0).filling == none
      && (t.link 0).counters.crcErrors == 1#16) = true := by decide

/-- R140, R49, R73: the frame is counted and the owed LINK-CLOSED is taken. -/
theorem test_transmitComplete : leaves (exec (.transmitComplete 0) ((State.reset.setLine 0
      { upLine with tx := some { frame := .linkClose } }).setLink 0 { owedLink := { closed := true } }))
    (fun t => (t.line 0).tx == some { frame := .linkClosed }
      && (t.link 0).counters.framesSent == 1#16) = true := by decide

theorem test_truncationComplete :
    let s (cut : Option Nat) := State.reset.setLine 0 { upLine with tx := some { frame := inSequence (.ctl .closed), begun := 2, cut } }
    leaves (exec (.truncationComplete 0) (s (some 2)))
    (fun t => (t.line 0).tx == none && (t.link 0).counters.framesSent == 0#16) = true
    ∧ refusedWith (exec (.truncationComplete 0) (s none)) .nothingToComplete = true
    ∧ refusedWith (exec (.transmitComplete 0) (s (some 2))) .nothingToComplete = true := by decide

/-- 11.2: a crossing LINK-OPEN with epoch 7 and offer 4; T_idle 5000 ms; the LINK-ACCEPT is taken at once. -/
theorem test_linkOpen : leaves (exec (.linkOpen 0) (hearing (onLine startingLink) (.linkOpen 7#8 4)))
    (fun t => (t.link 0).state == .up && (t.link 0).agreed == some 4 && (t.link 0).tIdle == some 5000
      && (t.line 0).tx.map TxSlot.frame == some (.linkAccept 7#8 1#8 4)) = true := by decide

theorem test_linkAccept : leaves (exec (.linkAccept 0) (hearing (onLine startingLink) (.linkAccept 1#8 7#8 4)))
    (fun t => (t.link 0).state == .up && (t.link 0).peerEpoch == some 7#8
      && (t.link 0).owedLink == {}) = true := by decide

theorem test_linkClose : leaves (exec (.linkClose 0) (hearing (up openChan) .linkClose))
    (fun t => (t.link 0).state == .down && (t.link 0).controller == none && (t.chan 3).endReason == some .peerStopped
      && (t.line 0).tx.map TxSlot.frame == some .linkClosed) = true := by decide +kernel

theorem test_linkClosed : leaves (exec (.linkClosed 0) (hearing (onLine { upLink with state := .stopping, tResp := some 9, tIdle := none })
      .linkClosed))
    (fun t => (t.link 0).state == .down && (t.link 0).tResp == none
      && (t.link 0).lastReason == some .stopped) = true := by decide

/-- R69: the answer to a poll is taken at once with V(r). -/
theorem test_status : leaves (exec (.status 0) (hearing (up openChan) (.status 0 true false)))
    (fun t => (t.line 0).tx.map TxSlot.frame == some (.status 0 false true)) = true := by decide

/-- Table 3-3, with V(a) = 30 and V(s) = 3. -/
theorem test_status_nr : [30#5, 1#5, 3#5, 4#5, 29#5].map ({ va := 30#5, vs := 3#5 : Link }).nrValid = [true, true, true, false, false] := by decide

/-- R63: a pass starts from V(a), and its first retransmission is taken at once. -/
theorem test_resend : leaves (exec (.resend 0) (hearing (onLine { upLink with
      vs := 2#5, rtx := [⟨0, 3, 5, .ctl (.credit 4#8)⟩, ⟨1, 3, 5, .ctl .closed⟩], tResp := some 3, tIdle := none }) (.resend 0)))
    (fun t => (t.link 0).goBack == some ⟨1, 0⟩ && (t.link 0).counters.retransmissions == 1#16
      && (t.link 0).tResp == some 200) = true := by decide

theorem test_data : leaves (exec (.data 0) (hearing (up openChan) (inSequence (.data [1#8, 2#8]))))
    (fun t => (t.chan 3).rxHeld == 1 && (t.chan 3).rxConsumed == 1#8 && t.pool.rx == 1
      && (t.link 0).vr == 1#5) = true := by decide

/-- R98: a DATA beyond the credit aborts the record. -/
theorem test_data_violation : leaves (exec (.data 0) (hearing (up { openChan with rxConsumed := 4#8 }) (inSequence (.data [1#8]))))
    (fun t => (t.chan 3).state == .aborting && (t.link 0).counters.violations == 1#16) = true := by decide

theorem test_chanOpen : leaves (exec (.chanOpen 0) (hearing (up listenChan) (inSequence (.ctl (.opn 3)))))
    (fun t => (t.chan 3).state == .opened && (t.chan 3).remote == some 5 && (t.chan 3).peerWindow == 3
      && t.pool.reserved == 4
      && (t.line 0).tx.map TxSlot.frame == some (.seq 0 1 5 3 (.ctl (.accept 4)))) = true := by decide

theorem test_chanOpen_busy : leaves (exec (.chanOpen 0) (hearing (up openChan) (inSequence (.ctl (.opn 3)))))
    (fun t => (t.link 0).counters.stray == 1#16
      && (t.line 0).tx.map TxSlot.frame == some (.seq 0 1 5 3 (.ctl (.refuse .busy)))) = true := by decide

theorem test_chanAccept : leaves (exec (.chanAccept 0) (hearing (up (openingChan {})) (inSequence (.ctl (.accept 3)))))
    (fun t => (t.chan 3).state == .opened && (t.chan 3).txLimit == 3#8
      && (t.chan 3).rxGranted == 4#8) = true := by decide

theorem test_chanRefuse : leaves (exec (.chanRefuse 0) (hearing (up (openingChan {})) (inSequence (.ctl (.refuse .noListener)))))
    (fun t => (t.chan 3).state == .ended && (t.chan 3).endReason == some .noListener) = true := by decide

theorem test_chanClose : leaves (exec (.chanClose 0) (hearing (up openChan) (inSequence (.ctl (.close true)))))
    (fun t => (t.chan 3).endReason == some .peerAborted
      && (t.line 0).tx.map TxSlot.frame == some (.seq 0 1 5 3 (.ctl .closed))) = true := by decide

theorem test_chanClosed : leaves (exec (.chanClosed 0) (hearing (up (abortingChan true)) (inSequence (.ctl .closed))))
    (fun t => t.chan 3 == {}) = true := by decide

/-- R102: an advance of 2 within the peer window is taken; a limit behind the present one is not. -/
theorem test_chanCredit : leaves (exec (.chanCredit 0) (hearing (up { openChan with txUsed := 2#8 }) (inSequence (.ctl (.credit 6#8)))))
    (fun t => (t.chan 3).txLimit == 6#8) = true
    ∧ leaves (exec (.chanCredit 0) (hearing (up openChan) (inSequence (.ctl (.credit 3#8)))))
    (fun t => (t.chan 3).txLimit == 4#8) = true := by decide

/-- R71: a plain STATUS meets the ACK. -/
theorem test_tAckExpiry : leaves (exec (.tAckExpiry 0) (onLine { upLink with vr := 1#5, ackPending := true, tAck := some 0 }))
    (fun t => (t.link 0).ackPending == false
      && (t.line 0).tx.map TxSlot.frame == some (.status 1 false false)) = true := by decide

/-- R36: with N_retry retries spent, FAILED(RETRY-EXHAUSTED). -/
theorem test_tRespExpiry : leaves (exec (.tRespExpiry 0) (onLine { startingLink with retry := 5, tResp := some 0 }))
    (fun t => (t.link 0).state == .failed && (t.link 0).lastReason == some .retryExhausted) = true := by decide

theorem test_tIdleExpiry : leaves (exec (.tIdleExpiry 0) (onLine { upLink with tIdle := some 0 }))
    (fun t => (t.link 0).tResp == some 200 && (t.link 0).pollOutstanding == true
      && (t.line 0).tx.map TxSlot.frame == some (.status 0 true false)) = true := by decide

/-- R151: ATT, EVT, DROP, OVF and two responses. -/
theorem test_chipSelectFalls : leaves (exec (.chipSelectFalls 0) (State.reset.setPort 0
      { session := .attached, events := [overflowRecord 1], drop := true, responses := [⟨1#8, 1#8, .ok, [], none⟩, ⟨2#8, 2#8, .ok, [], none⟩] }))
    (fun t => (t.port 0).txn == .code 0xF2#8) = true := by decide

theorem test_ignoredTransactionEnd : leaves (exec (.ignoredTransactionEnd 0 2) (inTxn State.reset .ignore))
    (fun t => (t.port 0).txn == .idle && (t.port 0).hso == [0#8, 0#8]) = true := by decide

/-- 11.5: with 5 blocks free-unreserved, record 8 at the head with want 9 is granted 5, and CREDIT is owed on its link. -/
theorem test_serve :
    let c : Chan := { state := .opened, remote := some 1, rxWindow := 16, rxHeld := 7 }
    let u := ((State.reset.setChan 8 c).setPool { free := 45, reserved := 40, creditOwed := [8, 3] }).serve
    (u.chan 8).rxGranted = 5#8 ∧ u.pool.reserved = 45 ∧ u.pool.creditOwed = [8, 3] ∧ (u.link 0).ready = [8] := by decide

/-- The time base (R26): a timer at 1 ms expires on the tick, and its expiry waits. -/
theorem test_tick : leaves (step (onLine { upLink with tIdle := some 1 }))
    (fun t => (t.link 0).tIdle == some 0 && t.pending.length == 1) = true := by decide +kernel

/-- R140, R138: at rate code 0 a tick passes 0.96 of a character; R147: a tick samples LRDYn. -/
theorem test_tick_line :
    leaves (step (State.reset.setLine 0 { upLine with rate := some 0, charRate := some 0, phase := 10, tx := some { frame := .linkClose, begun := 4 }, lrdy := false }))
    (fun t => (t.line 0).phase == 6 && (t.line 0).tx == some { frame := .linkClose, begun := 5 }
      && t.pending == [.lineReadyDeasserted 0]) = true
    ∧ leaves (step (State.reset.setLine 0 { upLine with tx := some { frame := .linkClose } }))
    (fun t => (t.line 0).tx == some { frame := .linkClose, begun := 6 } && t.pending == [.transmitComplete 0]) = true := by decide +kernel

end Steps

/-! ## Witnesses: for each statement with hypotheses, concrete states and operands that meet them, at the edges of its clauses -/

theorem writing_writes (s : State) (code : Byte) (n : Nat) (st : Staging) (session : Session) (hr : s.resetLow = false)
    (hs : session ≠ .reset) : (writing s code n st session).Writing 0 (header code n) st where
  live := by simp [State.portLive, writing, hr, hs]
  low := by simp [writing]
  txn := by simp [writing]

theorem writing_requests (s : State) (code : Byte) (body : List Byte) (st : Staging) (hr : s.resetLow = false)
    (hb : body.length < 65536) : (writing s code body.length st).Requests 0 code body (header code body.length) st where
  toWriting := writing_writes s code _ st _ hr (by decide)
  code := rfl
  whole := by simp [header]; omega
  attached := by simp [writing]

/-- A frame held on link 0 in sequence, while the link is UP at the start of its numbers. -/
theorem hearing_accepts (c : Chan) (x : Content) : (hearing (up c) (inSequence x)).Accepts 0 0 3 5 x where
  up := by rfl
  frame := by rfl
  valid := le_of_eq rfl

theorem witness_EmptyQueueTicks : State.reset.pending = [] ∧ State.reset.resetLow = false
    ∧ ({ State.reset with resetLow := true } : State).pending = [] ∧ (onLine upLink).pending = [] ∧ (onLine upLink).resetLow = false
    ∧ ((onLine upLink).line 0).enabled = true ∧ ((onLine upLink).line 0).rate = some 7 ∧ ((onLine upLink).line 0).charRate = some 7 ∧ ((onLine upLink).line 1).enabled = false := by decide

/-! ### A state in use, which obeys every law -/

/-- Host 0 attached, link 0 UP, record 3 OPEN with 4 blocks of credit, a line-ready sample waiting. -/
def inUse : State :=
  { ((up openChan).setPort 0 { session := .attached }).setPool { reserved := 4 } with pending := [.lineReadyAsserted 0] }

theorem inUse_port (p : Slot) : inUse.port p = if p = 0 then { session := .attached } else {} := by fin_cases p <;> rfl
theorem inUse_chan (i : ChanId) : inUse.chan i = if i = 3 then openChan else {} := by fin_cases i <;> rfl
theorem inUse_link (l : LinkId) : inUse.link l = if l = 0 then upLink else {} := by fin_cases l <;> rfl
theorem inUse_line (l : LinkId) : inUse.line l = if l = 0 then upLine else {} := by fin_cases l <;> rfl
theorem inUse_step : ∃ t, step inUse = .next t := ⟨_, rfl⟩

theorem witness_StepKeepsPorts : inUse.PortsOk ∧ ∃ t, step inUse = .next t := by
  refine ⟨⟨fun p => ?_, fun h => (by cases h), fun _ p => ?_⟩, inUse_step⟩
  · rw [inUse_port]; split <;> constructor <;> simp
  · rw [inUse_port]; split <;> simp

theorem inUse_lines : inUse.LinesOk := by
  intro l
  rw [inUse_line]; split <;> constructor <;> simp [upLine]

theorem witness_StepKeepsLines : inUse.LinesOk ∧ ∃ t, step inUse = .next t := ⟨inUse_lines, inUse_step⟩

theorem inUse_links : inUse.LinksOk := by
  intro l
  rw [inUse_link]; split
  · constructor <;> simp [upLink, Link.par, Params.defaults, Params.inRange]
  · constructor <;> simp

theorem witness_StepKeepsLinks : inUse.LinksOk ∧ ∃ t, step inUse = .next t := ⟨inUse_links, inUse_step⟩

theorem inUse_ready : inUse.ReadyOk where
  live := by decide
  quiet := by decide
  once := by decide
  exact l i := by
    have h : (inUse.chan i).owed = {} := by rw [inUse_chan]; split <;> rfl
    rw [h, inUse_link]; split <;> simp [upLink]

theorem witness_StepKeepsReadyLists : inUse.ReadyOk ∧ ∃ t, step inUse = .next t := ⟨inUse_ready, inUse_step⟩

theorem inUse_records : inUse.RecordsOk := by
  intro i
  rw [inUse_chan]; split <;> constructor <;> decide

theorem witness_StepKeepsRecords : inUse.LinesOk ∧ inUse.RecordsOk ∧ ∃ t, step inUse = .next t :=
  ⟨inUse_lines, inUse_records, inUse_step⟩

theorem inUse_pool : inUse.PoolOk := by constructor <;> decide

theorem witness_StepKeepsPool : inUse.PortsOk ∧ inUse.LinksOk ∧ inUse.RecordsOk ∧ inUse.PoolOk ∧ ∃ t, step inUse = .next t :=
  ⟨witness_StepKeepsPorts.1, inUse_links, inUse_records, inUse_pool, inUse_step⟩

theorem witness_StepKeepsFrames : inUse.FramesOk ∧ ∃ t, step inUse = .next t := by
  refine ⟨?_, inUse_step⟩
  constructor
  case windows => decide
  all_goals
    intro l
    first
      | (rw [inUse_link]; split <;> simp [upLink, Params.defaults, Params.inRange])
      | (rw [inUse_line]; split <;> simp [upLine])
      | (rw [inUse_chan]; split <;> simp [openChan])

theorem witness_StepKeepsReset :
    let s : State := { State.reset.setLine 0 { lrdy := false } with resetLow := true, pending := [.deviceResetRelease] }
    s.ResetOk ∧ s.resetLow = true ∧ ∃ t, step s = .next t :=
  ⟨fun _ => ⟨rfl, rfl, rfl, by decide, by decide⟩, rfl, _, rfl⟩

theorem witness_StepKeepsSettled : inUse.PortsOk ∧ inUse.ReadyOk ∧ inUse.Settled ∧ ∃ t, step inUse = .next t :=
  ⟨witness_StepKeepsPorts.1, inUse_ready, by unfold State.Settled; decide, inUse_step⟩

/-! ### Line port -/

theorem witness_FrameBodyReadsBack : (Frame.linkOpen 255#8 16).wellFormed = true ∧ (Frame.linkAccept 1#8 255#8 1).wellFormed = true
    ∧ (Frame.seq 31 31 31 31 (.ctl (.opn 64))).wellFormed = true ∧ (Frame.seq 0 0 0 0 (.data [0#8])).wellFormed = true
    ∧ readFields [0x21#8, 31#8, 3#8] = some (.status 31 true true) := by decide

theorem witness_FrameOnLineIsReceived : Frame.linkClose.wellFormed = true ∧ upLine.rx = .hunt ∧ upLine.held.length < 2
    ∧ ({ upLine with rx := .gap, held := [.linkClosed] } : LinePort).held.length < 2 := by decide

/-- `State.reset` with line port 0 enabled and changed. -/
def lineState (x : LinePort) : State := State.reset.setLine 0 x

theorem witness_FrameBodyStartClaimsABuffer :
    let s (held : List Frame) := lineState { upLine with rx := .gap, held }
    (∀ held : List Frame, ((s held).line 0).enabled = true ∧ ((s held).line 0).rx = .gap ∧ ((s held).line 0).held = held)
    ∧ (0x5A#8 : Byte) ≠ delimiter ∧ (0x11#8 : Byte) ≠ delimiter := ⟨fun _ => ⟨rfl, rfl, rfl⟩, by decide, by decide⟩

theorem witness_FrameEndChecksTheBody :
    let s (b : List Byte) := lineState { upLine with rx := .body, filling := some b }
    (∀ b, ((s b).line 0).enabled = true ∧ ((s b).line 0).rx = .body ∧ ((s b).line 0).filling = some b)
    ∧ ([1#8, 2#8] : List Byte).length < 3
    ∧ (let b := [0x13#8, 0#8, 0#8]; crcBytes (b.take (b.length - 2)) ≠ b.drop (b.length - 2))
    ∧ (let b := 0x15#8 :: crcBytes [0x15#8]
       3 ≤ b.length ∧ crcBytes (b.take (b.length - 2)) = b.drop (b.length - 2) ∧ readFields (b.take (b.length - 2)) = none)
    ∧ (let b := 0x13#8 :: crcBytes [0x13#8]
       crcBytes (b.take (b.length - 2)) = b.drop (b.length - 2) ∧ readFields (b.take (b.length - 2)) = some .linkClose) :=
  ⟨fun _ => ⟨rfl, rfl, rfl⟩, by decide, by decide, by decide, by decide⟩

theorem witness_BodyCharactersFollowTheTable :
    let s (rx : RxState) (n : Nat) := lineState { upLine with rx, filling := some (List.replicate n 0#8) }
    let gap := lineState { upLine with rx := .gap, rxWait := true }
    ((lineState upLine).line 0).enabled = true ∧ ((lineState upLine).line 0).rx = .hunt ∧ (gap.line 0).rx = .gap
    ∧ (gap.line 0).enabled = true ∧ (gap.line 0).rxWait = true ∧ (State.reset.line 0).enabled = false
    ∧ (List.replicate 8 true).length = 8
    ∧ ∀ n, ((s .body n).line 0).rx = .body ∧ ((s .escape n).line 0).rx = .escape
        ∧ ((s .body n).line 0).enabled = true ∧ ((s .escape n).line 0).enabled = true
        ∧ ((s .body n).line 0).filling = some (List.replicate n 0#8) ∧ ((s .escape n).line 0).filling = some (List.replicate n 0#8) :=
  ⟨rfl, rfl, rfl, rfl, rfl, rfl, rfl, fun _ => ⟨rfl, rfl, rfl, rfl, rfl, rfl⟩⟩

theorem witness_TransmissionEnds :
    let x (cut : Option Nat) : TxSlot := { frame := inSequence (.ctl .closed), begun := 2, cut }
    ((lineState { upLine with tx := some (x (some 2)) }).line 0).tx = some (x (some 2)) ∧ (x (some 2)).cut = some 2
    ∧ ((lineState { upLine with tx := some (x none) }).line 0).tx = some (x none) ∧ (x none).cut = none
    ∧ upLine.enabled = true ∧ upLine.tx = none ∧ ({} : LinePort).enabled = false := by decide

theorem witness_LineReadySamples :
    let s (st : LinkState) := onLine { upLink with state := st }
    (∀ st, ((s st).line 0).enabled = true ∧ ((s st).line 0).lineReady = some true ∧ ((s st).link 0).state = st)
    ∧ ((lineState { upLine with lineReady := none }).line 0).lineReady ≠ some true ∧ (State.reset.line 0).enabled = false :=
  ⟨fun _ => ⟨rfl, rfl, rfl⟩, by decide, by decide⟩

/-! ### Transactions and resets -/

theorem witness_StatusByteIsFixedAndReturned :
    State.reset.resetLow = false ∧ (State.reset.port 0).csLow = false ∧ (State.reset.port 0).session ≠ .reset
    ∧ (State.reset.port 0).responses.length ≤ 8
    ∧ ((State.reset.setPort 0 { session := .reset, hrstLow := true }).port 0).session = .reset
    ∧ (inTxn State.reset (.code 0xA0#8)).portLive 0 = true ∧ ((inTxn State.reset (.code 0xA0#8)).port 0).csLow = true
    ∧ ((inTxn State.reset (.code 0xA0#8)).port 0).txn = .code 0xA0#8 := by decide

theorem witness_StatusAndIgnoredTransactionsEnd :
    (∀ t, (inTxn State.reset t).portLive 0 = true ∧ ((inTxn State.reset t).port 0).csLow = true ∧ ((inTxn State.reset t).port 0).txn = t)
    ∧ (State.reset.setPort 0 { session := .reset, csLow := true, txn := .ignore }).portLive 0 = false := ⟨fun _ => ⟨rfl, rfl, rfl⟩, rfl⟩

/-- `s` with port 0 after the code byte of a write, with `n` responses waiting. -/
def headed (s : State) (n : Nat) : State :=
  s.setPort 0 { session := .attached, csLow := true, txn := .writeHeader, responses := List.replicate n ⟨0#8, 0#8, .ok, [], none⟩ }

theorem witness_HeaderDropsOrStages :
    let len (high low : Byte) : Nat := high.toNat * 256 + low.toNat
    let full := (headed State.reset 7).setPool { free := 10, usage := #v[192, 0, 0], reserved := 9 }
    let short := (headed State.reset 7).setPool { free := 10, usage := #v[176, 0, 0], reserved := 9 }
    (∀ n, (headed State.reset n).portLive 0 = true ∧ ((headed State.reset n).port 0).csLow = true
      ∧ ((headed State.reset n).port 0).txn = .writeHeader)
    ∧ ((headed State.reset 8).port 0).responses.length = 8 ∧ ((headed State.reset 7).port 0).responses.length = 7
    ∧ ((headed State.reset 7).port 0).session = .attached
    ∧ len 0 3 < 4 ∧ 1027 < len 4 4 ∧ len 0 4 = 4 ∧ len 4 3 = 1027
    ∧ 192 < full.pool.usage[(0 : Slot)] + (len 0 4 - 3 + 63) / 64
    ∧ short.pool.usage[(0 : Slot)] + (len 4 3 - 3 + 63) / 64 = 192
    ∧ short.pool.free - short.pool.reserved < (len 4 3 - 3 + 63) / 64
    ∧ (len 0 4 - 3 + 63) / 64 ≤ short.pool.free - short.pool.reserved :=
  ⟨fun _ => ⟨rfl, rfl, rfl⟩, by decide⟩

theorem witness_ResponseReadToItsEndIsRemoved :
    let m : RxMsg := { channel := 3, payload := [1#8] }
    let r (msg : Option RxMsg) : Response := ⟨7#8, 0x31#8, .ok, [3#8, 0#8, 0#8, 1#8], msg⟩
    let s (msg : Option RxMsg) := State.reset.setPort 0
      { session := .attached, csLow := true, responses := [r msg], txn := .readResponse (some (r msg)) }
    (∀ msg, (s msg).portLive 0 = true ∧ ((s msg).port 0).csLow = true ∧ ((s msg).port 0).responses = [r msg]
      ∧ ((s msg).port 0).txn = .readResponse (some (r msg)))
    ∧ (r (some m)).bytes.length = 10 ∧ (r none).bytes.length = 9
    ∧ ((inTxn State.reset (.readResponse none)).port 0).txn = .readResponse none := ⟨fun _ => ⟨rfl, rfl, rfl, rfl⟩, rfl, rfl, rfl⟩

theorem witness_EventReadToItsEndIsRemoved :
    let s (e : Event) (n : Nat) := State.reset.setPort 0
      { session := .attached, csLow := true, events := [e], txn := .readEvent (some e) n }
    (∀ e n, (s e n).portLive 0 = true ∧ ((s e n).port 0).csLow = true ∧ ((s e n).port 0).txn = .readEvent (some e) n
      ∧ ((s e n).port 0).events.length = 1)
    ∧ (overflowRecord 1).kind = .overflow ∧ (linkEvent 0 .linkUp none 4).kind ≠ .overflow
    ∧ ((inTxn State.reset (.readEvent none 0)).port 0).txn = .readEvent none 0 := ⟨fun _ _ => ⟨rfl, rfl, rfl, rfl⟩, rfl, by decide, rfl⟩

theorem witness_PortResetClearsThePort : State.reset.resetLow = false ∧ (inUse.port 0).session = .attached
    ∧ (State.reset.port 0).session ≠ .attached
    ∧ ((State.reset.setPort 0 { session := .reset, hrstLow := true }).port 0).hrstLow = true := by decide

theorem witness_DeviceResetSetsEveryBlock : ({ State.reset with resetLow := true } : State).resetLow = true := rfl

/-! ### Host requests -/

theorem witness_CommonChecksRefuse :
    (writing State.reset 0x13#8 1 .none .detached).Writing 0 (header 0x13#8 1) .none
    ∧ (writing State.reset 0x99#8 1).Writing 0 (header 0x99#8 1) .none
    ∧ ([] : List Byte).length ≠ (header 0x13#8 1).len.toNat ∧ [0#8].length = (header 0x13#8 1).len.toNat
    ∧ (∃ f, acceptedLengths (header 0x13#8 1).code = some f ∧ f 1 = true ∧ f 2 = false ∧ f 0 = false)
    ∧ acceptedLengths (header 0x99#8 1).code = none ∧ ((writing State.reset 0x13#8 1 .none .detached).port 0).session = .detached :=
  ⟨writing_writes _ _ _ _ _ rfl (by decide), writing_writes _ _ _ _ _ rfl (by decide), by decide, by decide,
    ⟨_, rfl, by decide, by decide, by decide⟩, by decide, by decide⟩

/-- The first check that fails, for a request on `s` with record 3 or link 0 as its operand. -/
theorem witness_CommandChecksRefuse :
    let fails (s : State) (code : Byte) (body : List Byte) (st : Staging) : Option Result :=
      firstFailing ((writing s code body.length st).checks 0 code body st)
    let opened := up openChan
    let owned (c : Chan) := up { c with owner := 1 }
    (∀ (s : State) (code : Byte) (body : List Byte), s.resetLow = false → body.length < 65536 →
      (writing s code body.length .none).Writing 0 (header code body.length) .none
        ∧ body.length = (header code body.length).len.toNat)
    ∧ fails State.reset 0x01#8 [] .none = some .badState
    ∧ fails State.reset 0x10#8 [2#8, 0#8] .none = some .badArg ∧ fails opened 0x10#8 [0#8, 0#8] .none = some .badState
    ∧ fails (onLine { upLink with state := .failed, controller := some 1 }) 0x10#8 [0#8, 0#8] .none = some .notController
    ∧ fails State.reset 0x11#8 [0#8] .none = some .badState ∧ fails State.reset 0x12#8 [2#8] .none = some .badArg
    ∧ fails opened 0x20#8 [3#8, 0#8, 255#8, 1#8, 0#8] .none = some .inUse
    ∧ fails opened 0x21#8 [4#8, 1#8, 5#8, 64#8, 1#8] .none = some .linkNotUp
    ∧ fails (opened.setPool { free := 63 }) 0x21#8 [4#8, 0#8, 5#8, 64#8, 1#8] .none = some .noBuffer
    ∧ fails (owned openChan) 0x22#8 [3#8] .none = some .notOwner ∧ fails (up listenChan) 0x22#8 [3#8] .none = some .badState
    ∧ fails (up (abortingChan true)) 0x23#8 [3#8] .none = some .badState ∧ fails State.reset 0x24#8 [32#8] .none = some .badArg
    ∧ fails opened 0x30#8 (3#8 :: 0#8 :: 0#8 :: List.replicate 257 0#8) (.granted 257) = some .tooLarge
    ∧ fails opened 0x30#8 [3#8, 0#8, 0#8, 0#8] (.refused .quota) = some .quota ∧ fails opened 0x31#8 [3#8] .none = some .empty := by
  refine ⟨fun s code body hr hb => ⟨writing_writes _ _ _ _ _ hr (by decide), by simp [header]; omega⟩, ?_⟩
  decide +kernel

theorem witness_AttachOpensASession :
    (writing State.reset 0x01#8 0 .none .detached).Writing 0 (header 0x01#8 0) .none ∧ (header 0x01#8 0).code = 0x01#8
    ∧ (header 0x01#8 0).len = 0 ∧ ((writing State.reset 0x01#8 0 .none .detached).port 0).session = .detached :=
  ⟨writing_writes _ _ _ _ _ rfl (by decide), by decide, by decide, by decide⟩

theorem witness_DetachEndsTheSession : (writing inUse 0x02#8 0).Requests 0 0x02#8 [] (header 0x02#8 0) .none
    ∧ (writing inUse 0x02#8 0).RecordsOk ∧ (writing inUse 0x02#8 0).PoolOk ∧ (writing inUse 0x02#8 0).Owns 0 3 :=
  ⟨writing_requests inUse 0x02#8 [] .none rfl (by decide), inUse_records, by constructor <;> decide, by decide⟩

theorem witness_QueriesAnswer : (writing inUse 0x13#8 1).Requests 0 0x13#8 [1#8] (header 0x13#8 1) .none
    ∧ (writing inUse 0x24#8 1).Requests 0 0x24#8 [31#8] (header 0x24#8 1) .none
    ∧ (writing inUse 0x40#8 0).Requests 0 0x40#8 [] (header 0x40#8 0) .none ∧ (1#8).toNat = (1 : LinkId).val
    ∧ (31#8).toNat = (31 : ChanId).val :=
  ⟨writing_requests inUse 0x13#8 [1#8] .none rfl (by decide), writing_requests inUse 0x24#8 [31#8] .none rfl (by decide),
    writing_requests inUse 0x40#8 [] .none rfl (by decide), by decide, by decide⟩

/-- The parameters at the upper ends of their ranges (Table 2-3). -/
def highParams : Params :=
  { mode := .passive, windowOffer := 16, rateCode := 7, tAck := 255, tResp := 10000, tIdle := 60000, nRetry := 15 }

theorem witness_LinkStartBeginsASession :
    let full := [0#8, 1#8, 16#8, 7#8, 255#8, byteOf (10000 / 256), byteOf 10000, byteOf (60000 / 256), byteOf 60000, 15#8]
    let s (c : Option Slot) := onLine { upLink with state := .failed, controller := c }
    (writing State.reset 0x10#8 2).Requests 0 0x10#8 [1#8, 0#8] (header 0x10#8 2) .none
    ∧ (∀ c, (writing (s c) 0x10#8 10).Requests 0 0x10#8 full (header 0x10#8 10) .none)
    ∧ full = [byteOf 0, 1#8, byteOf highParams.windowOffer, byteOf highParams.rateCode, byteOf highParams.tAck,
        byteOf (highParams.tResp / 256), byteOf highParams.tResp, byteOf (highParams.tIdle / 256), byteOf highParams.tIdle,
        byteOf highParams.nRetry]
    ∧ highParams.inRange = true ∧ ((writing State.reset 0x10#8 2).link 1).state = .down
    ∧ ((writing (s none) 0x10#8 10).link 0).state = .failed ∧ ((writing (s (some 0)) 0x10#8 10).link 0).controller = some 0 :=
  ⟨writing_requests State.reset 0x10#8 [1#8, 0#8] .none rfl (by decide),
    fun _ => writing_requests _ 0x10#8 [0#8, 1#8, 16#8, 7#8, 255#8, byteOf (10000 / 256), byteOf 10000, byteOf (60000 / 256),
      byteOf 60000, 15#8] .none rfl (by decide),
    by decide, by decide, by decide, by decide, by decide⟩

/-- A link of host 0 in state `st`, on a port that writes a request naming link 0. -/
def linkRequest (code : Byte) (st : LinkState) (c : Option Slot) : State := writing (onLine { upLink with state := st, controller := c }) code 1

theorem witness_LinkStopEndsTheSession : ∀ st,
    (linkRequest 0x11#8 st (some 0)).Requests 0 0x11#8 [0#8] (header 0x11#8 1) .none ∧ (0#8).toNat = (0 : LinkId).val
    ∧ ((linkRequest 0x11#8 st (some 0)).link 0).controller = some 0 ∧ ((linkRequest 0x11#8 st (some 0)).link 0).state = st :=
  fun _ => ⟨writing_requests _ 0x11#8 [0#8] .none rfl (by decide), rfl, rfl, rfl⟩

theorem witness_LinkClaimTakesAVacantRole :
    (∀ st c, (linkRequest 0x12#8 st c).Requests 0 0x12#8 [0#8] (header 0x12#8 1) .none
      ∧ (linkRequest 0x12#8 st c).Requests 0 0x12#8 [2#8] (header 0x12#8 1) .none
      ∧ ((linkRequest 0x12#8 st c).link 0).state = st ∧ ((linkRequest 0x12#8 st c).link 0).controller = c)
    ∧ 1 < (2#8).toNat ∧ (1 : Slot) ≠ 0 :=
  ⟨fun _ _ => ⟨writing_requests _ 0x12#8 [0#8] .none rfl (by decide), writing_requests _ 0x12#8 [2#8] .none rfl (by decide), rfl, rfl⟩,
    by decide, by decide⟩

theorem witness_ListenAndOpenTakeARecord :
    (∀ code body, body.length = 5 → (writing (up openChan) code body.length).Requests 0 code body (header code body.length) .none)
    ∧ (writing (up openChan) 0x20#8 5).Resolves 0xFF#8 0 ∧ (writing (up openChan) 0x21#8 5).Resolves 31#8 31
    ∧ ((writing (up openChan) 0x21#8 5).link 0).state = .up ∧ (1#8).toNat = 1 ∧ (64#8).toNat = 64 ∧ (31#8).toNat = (31 : ChanId).val
    ∧ (64#8).toNat ≤ ((writing (up openChan) 0x21#8 5).setPool { free := 64 }).pool.free - 0 := by
  refine ⟨fun code body h => writing_requests _ code body .none rfl (by omega), ⟨by decide, Or.inr ⟨rfl, by decide⟩⟩,
    ⟨by decide, Or.inl rfl⟩, by decide, by decide, by decide, by decide, by decide⟩

/-- Record 3 as given, on a port of its owner that writes a request naming it. -/
def chanRequest (code : Byte) (c : Chan) : State := writing (up c) code 1

def someMsg : TxMsg := { slot := 0, channel := 3, tag := 1#8, notify := true, payload := [1#8] }

theorem chanRequest_requests (code : Byte) (c : Chan) : (chanRequest code c).Requests 0 code [3#8] (header code 1) .none :=
  writing_requests _ code [3#8] .none rfl (by decide)

theorem witness_ChCloseBeginsTheDrain : ∀ q : List TxMsg,
    let s := chanRequest 0x22#8 { openChan with sendQ := q }
    s.Requests 0 0x22#8 [3#8] (header 0x22#8 1) .none ∧ (3#8).toNat = (3 : ChanId).val ∧ s.Owns 0 3
    ∧ (s.chan 3).state = .opened ∧ (s.chan 3).sendQ = q :=
  fun _ => ⟨chanRequest_requests _ _, rfl, ⟨by simp [chanRequest, writing, up, openChan], rfl⟩, rfl, rfl⟩

theorem witness_ChReleaseGivesUpARecord :
    let s (c : Chan) := chanRequest 0x23#8 c
    let m : RxMsg := { channel := 3, payload := [1#8] }
    (∀ c, (s c).Requests 0 0x23#8 [3#8] (header 0x23#8 1) .none ∧ ((s c).chan 3) = c) ∧ (3#8).toNat = (3 : ChanId).val
    ∧ (s listenChan).Owns 0 3 ∧ (s { state := .ended, rxWindow := 4, rxHeld := 1, recvQ := [m] }).Owns 0 3
    ∧ (s (openingChan { opn := true })).Owns 0 3 ∧ (s (openingChan {})).Owns 0 3 ∧ (s openChan).Owns 0 3
    ∧ (s { openChan with state := .closing }).Owns 0 3 :=
  ⟨fun _ => ⟨chanRequest_requests _ _, rfl⟩, by decide, by decide, by decide, by decide, by decide, by decide, by decide⟩

theorem witness_SendQueuesItsMessage :
    let c : Chan := { openChan with peerWindow := 16, sendQ := List.replicate 15 someMsg }
    let s (payload : List Byte) := writing (up c) 0x30#8 (3#8 :: 9#8 :: 1#8 :: payload).length (.granted payload.length)
    (∀ payload, payload.length ≤ 1024 →
      (s payload).Requests 0 0x30#8 (3#8 :: 9#8 :: 1#8 :: payload) (header 0x30#8 (3#8 :: 9#8 :: 1#8 :: payload).length)
        (.granted payload.length) ∧ ((s payload).chan 3) = c)
    ∧ (s [1#8]).Owns 0 3 ∧ c.state = .opened ∧ c.sendQ.length < 16 ∧ (1024 + 63) / 64 ≤ c.peerWindow
    ∧ (List.replicate 1024 0#8).length = 1024 :=
  ⟨fun _ h => ⟨writing_requests _ 0x30#8 _ _ rfl (by simp only [List.length_cons]; omega), rfl⟩, by decide, by decide, by decide,
    by decide, List.length_replicate⟩

theorem witness_RecvMovesTheHeadMessage :
    let m : RxMsg := { channel := 3, payload := [1#8] }
    let c : Chan := { openChan with rxConsumed := 1#8, rxHeld := 1, recvQ := [m] }
    let s (c : Chan) := chanRequest 0x31#8 c
    (∀ c, (s c).Requests 0 0x31#8 [3#8] (header 0x31#8 1) .none ∧ (s c).chan 3 = c) ∧ (s c).Owns 0 3
    ∧ (s { c with state := .closing }).Owns 0 3 ∧ (s { c with state := .ended }).Owns 0 3
    ∧ c.rxWindow - (c.rxHeld - 1) - (c.rxGranted - c.rxConsumed).toNat = 1
    ∧ 0 < (s c).pool.free - (s c).pool.reserved
    ∧ ((s c).setPool { free := 4, reserved := 4 }).pool.free - ((s c).setPool { free := 4, reserved := 4 }).pool.reserved = 0 :=
  ⟨fun _ => ⟨chanRequest_requests _ _, rfl⟩, by decide, by decide, by decide, by decide, by decide, by decide⟩

/-! ### Frames -/

theorem hearing_hears (s : State) (f : Frame) : (hearing s f).Hears 0 f := by simp [State.Hears, hearing]

theorem hearing_link (k : Link) (f : Frame) : (hearing (onLine k) f).link 0 = k := rfl

theorem witness_LinkOpenAndAcceptBringTheLinkUp : (∀ k f, (hearing (onLine k) f).Hears 0 f ∧ (hearing (onLine k) f).link 0 = k)
    ∧ startingLink.state = .starting ∧ startingLink.ownEpoch = 1#8 ∧ (2#8 : Byte) ≠ startingLink.ownEpoch ∧ upLink.state = .up
    ∧ upLink.peerEpoch = some 9#8 ∧ upLink.peerEpoch ≠ some 7#8 := ⟨fun _ _ => ⟨hearing_hears _ _, rfl⟩, by decide⟩

theorem witness_LinkCloseAndClosedBringTheLinkDown : ∀ st,
    (hearing (onLine { upLink with state := st }) .linkClose).Hears 0 .linkClose
    ∧ (hearing (onLine { upLink with state := st }) .linkClosed).Hears 0 .linkClosed
    ∧ ((hearing (onLine { upLink with state := st }) .linkClose).link 0).state = st :=
  fun _ => ⟨hearing_hears _ _, hearing_hears _ _, rfl⟩

theorem witness_FramesOutsideTheirStatesAreDiscarded : ∀ st f,
    (hearing (onLine { upLink with state := st }) f).Hears 0 f ∧ ((hearing (onLine { upLink with state := st }) f).link 0).state = st
    ∧ (Frame.resend 0).nr ≠ none := fun _ _ => ⟨hearing_hears _ _, rfl, by decide⟩

/-- Table 3-3: V(a) = 30 and V(s) = 3, where nr 3 is the last valid one and 4 and 29 are not. -/
theorem witness_NumbersAreChecked :
    let k : Link := { upLink with va := 30#5, vs := 3#5, vr := 2#5 }
    (∀ f, (hearing (onLine k) f).Hears 0 f ∧ (hearing (onLine k) f).link 0 = k) ∧ (Frame.status 4 false false).nr = some 4
    ∧ k.state = .up ∧ (k.vs - k.va).toNat < (4#5 - k.va).toNat ∧ (k.vs - k.va).toNat < (29#5 - k.va).toNat
    ∧ (3#5 - k.va).toNat ≤ (k.vs - k.va).toNat ∧ (1#5 : Seq) ≠ k.vr ∧ (3#5 : Seq) ≠ k.vr :=
  ⟨fun _ => ⟨hearing_hears _ _, rfl⟩, by decide⟩

/-- UP with two frames outstanding and a poll. -/
def polling (rtx : List Entry) (vs : Seq) (g : Option GoBack) : State :=
  onLine { upLink with vs, rtx, goBack := g, pollOutstanding := true, tResp := some 3, tIdle := none }

def twoEntries : List Entry := [⟨0, 3, 5, .ctl (.credit 4#8)⟩, ⟨1, 3, 5, .ctl .closed⟩]

theorem witness_StatusAndResendAct :
    let s (g : Option GoBack) (f : Frame) := hearing (polling twoEntries 2 g) f
    (∀ g f, (s g f).Hears 0 f ∧ ((s g f).link 0).state = .up ∧ ((s g f).link 0).vs = 2 ∧ ((s g f).link 0).va = 0)
    ∧ (((s none (.status 2 false true)).afterNr 0 2).link 0).rtx = []
    ∧ (((s none (.status 2 false true)).afterNr 0 2).link 0).pollOutstanding = true
    ∧ (((s none (.status 1 false true)).afterNr 0 1).link 0).rtx ≠ []
    ∧ (((s (some ⟨1, 0⟩) (.resend 0)).afterNr 0 0).link 0).goBack = some ⟨1, 0⟩
    ∧ (((s (some ⟨1, 0⟩) (.resend 0)).afterNr 0 0).link 0).va = 0
    ∧ (((s (some ⟨1, 0⟩) (.resend 1)).afterNr 0 1).link 0).va ≠ 0 :=
  ⟨fun _ _ => ⟨hearing_hears _ _, rfl, rfl, rfl⟩, by decide⟩

/-- The state in which the frame of `hearing_accepts` reaches the channel table. -/
def reached (c : Chan) (x : Content) : State := (hearing (up c) (inSequence x)).afterAccept 0 0

theorem acknowledge_nothing (s : State) (l : LinkId) : s.acknowledge l (s.link l).va = s := by simp [State.acknowledge]

theorem afterNr_nothing (s : State) (l : LinkId) : s.afterNr l (s.link l).va = (s.heard l).setLink l (s.link l).idled := by
  have h := acknowledge_nothing ((s.heard l).setLink l (s.link l).idled) l
  rwa [link_setLink] at h

theorem reached_chan (c : Chan) (x : Content) : (reached c x).chan 3 = c := by
  show ((hearing (up c) (inSequence x)).afterNr 0 ((hearing (up c) (inSequence x)).link 0).va).chan 3 = c
  rw [afterNr_nothing]; rfl

theorem reached_pool (c : Chan) (x : Content) : (reached c x).pool = {} := by
  show ((hearing (up c) (inSequence x)).afterNr 0 ((hearing (up c) (inSequence x)).link 0).va).pool = {}
  rw [afterNr_nothing]; rfl

theorem reached_matches (c : Chan) (x : Content) (h1 : c.state ≠ .free) (h2 : c.link = 0) (h3 : c.remote = some 5) :
    (reached c x).Matches 0 3 5 := by
  unfold State.Matches
  rw [reached_chan]
  exact ⟨h1, h2, h3⟩

theorem reached_unmatched (c : Chan) (x : Content) (h : c.state = .free ∨ c.link ≠ 0 ∨ c.remote ≠ some 5) :
    ¬ (reached c x).Matches 0 3 5 := by
  unfold State.Matches
  rw [reached_chan]
  rintro ⟨h1, h2, h3⟩
  rcases h with h | h | h <;> contradiction

theorem witness_DataIsPlacedWithinCredit :
    let x (n : Nat) : Content := .data (List.replicate n 0#8)
    (∀ c n, (hearing (up c) (inSequence (x n))).Accepts 0 0 3 5 (x n) ∧ (reached c (x n)).chan 3 = c)
    ∧ (reached openChan (x 256)).Matches 0 3 5 ∧ (reached { openChan with state := .closing } (x 256)).Matches 0 3 5
    ∧ (256 + 63) / 64 = openChan.outstanding ∧ openChan.outstanding < (257 + 63) / 64 ∧ openChan.recvQ = [] :=
  ⟨fun c n => ⟨hearing_accepts c _, reached_chan c _⟩, reached_matches _ _ (by decide) rfl rfl, reached_matches _ _ (by decide) rfl rfl, by decide⟩

theorem witness_StrayDataIsDiscarded :
    (∀ c : Chan, (hearing (up c) (inSequence (.data [1#8]))).Accepts 0 0 3 5 (.data [1#8]))
    ∧ ¬ (reached {} (.data [1#8])).Matches 0 3 5 ∧ ¬ (reached { openChan with remote := some 6 } (.data [1#8])).Matches 0 3 5
    ∧ ((reached (openingChan {}) (.data [1#8])).chan 3).state = .opening :=
  ⟨fun c => hearing_accepts c _, reached_unmatched _ _ (by decide), reached_unmatched _ _ (by decide),
    congrArg Chan.state (reached_chan _ _)⟩

theorem witness_ChanOpenMeetsTheRecord :
    let x : Content := .ctl (.opn 3)
    let other (st : ChState) : Chan := { openChan with state := st }
    (∀ c, (hearing (up c) (inSequence x)).Accepts 0 0 3 5 x ∧ (reached c x).chan 3 = c ∧ (reached c x).pool = {})
    ∧ listenChan.rxWindow ≤ 1024 ∧ listenChan.owed = {} ∧ listenChan.remote = none ∧ 1024 < ({ listenChan with rxWindow := 1025 } : Chan).rxWindow
    ∧ ({ listenChan with remote := some 6 } : Chan).remote ≠ some 5
    ∧ (reached (openingChan { opn := true }) x).Matches 0 3 5 ∧ (reached (openingChan {}) x).Matches 0 3 5
    ∧ ¬ (reached { openingChan {} with link := 1 } x).Matches 0 3 5 ∧ ∀ st, (other st).state = st :=
  ⟨fun c => ⟨hearing_accepts c _, reached_chan c _, reached_pool c _⟩, by decide, by decide, by decide, by decide, by decide,
    reached_matches _ _ (by decide) rfl rfl, reached_matches _ _ (by decide) rfl rfl, reached_unmatched _ _ (by decide), fun _ => rfl⟩

/-- Limits with an advance of 1, 128, 0 and 129, and credits at and beyond the peer window. -/
theorem witness_AcceptRefuseAndCreditAct :
    (∀ c x, (hearing (up c) (inSequence (.ctl x))).Accepts 0 0 3 5 (.ctl x) ∧ (reached c (.ctl x)).chan 3 = c)
    ∧ (∀ x, (reached (openingChan {}) (.ctl x)).Matches 0 3 5 ∧ (reached (abortingChan false) (.ctl x)).Matches 0 3 5
      ∧ (reached openChan (.ctl x)).Matches 0 3 5)
    ∧ (let c : Chan := { openChan with txLimit := 200#8, txUsed := 72#8, peerWindow := 4 }
       (201#8 - c.txLimit).toNat = 1 ∧ (72#8 - c.txLimit).toNat = 128 ∧ (72#8 - c.txUsed).toNat ≤ c.peerWindow
        ∧ (200#8 - c.txLimit).toNat = 0 ∧ 128 < (73#8 - c.txLimit).toNat ∧ c.peerWindow < (201#8 - c.txUsed).toNat) :=
  ⟨fun c _ => ⟨hearing_accepts c _, reached_chan c _⟩, fun _ => ⟨reached_matches _ _ (by decide) rfl rfl, reached_matches _ _ (by decide) rfl rfl,
    reached_matches _ _ (by decide) rfl rfl⟩, by decide⟩

theorem witness_CloseAndClosedEndTheConversation :
    (∀ c x, (hearing (up c) (inSequence (.ctl x))).Accepts 0 0 3 5 (.ctl x) ∧ (reached c (.ctl x)).chan 3 = c)
    ∧ (∀ x b, (reached (abortingChan b) (.ctl x)).Matches 0 3 5 ∧ (abortingChan b).closeSent = b)
    ∧ ∀ x st b, st ≠ .free → (reached { openChan with state := st, closeSent := b } (.ctl x)).Matches 0 3 5 :=
  ⟨fun c _ => ⟨hearing_accepts c _, reached_chan c _⟩, fun _ b => ⟨reached_matches _ _ (by simp [abortingChan]) rfl rfl, rfl⟩,
    fun _ _ _ h => reached_matches _ _ h rfl rfl⟩

theorem witness_FramesWithoutTheirRecordAreStray :
    (∀ c x, (hearing (up c) (inSequence (.ctl x))).Accepts 0 0 3 5 (.ctl x) ∧ (reached c (.ctl x)).chan 3 = c)
    ∧ (∀ x, ¬ (reached {} (.ctl x)).Matches 0 3 5) ∧ (openingChan { opn := true }).owed.opn = true ∧ openChan.closeSent = false :=
  ⟨fun c _ => ⟨hearing_accepts c _, reached_chan c _⟩, fun _ => reached_unmatched _ _ (by decide), by decide, by decide⟩

/-! ### Timers, the arbiter and the shared changes -/

theorem witness_TimerExpiriesAct :
    let k (st : LinkState) (n : Nat) : Link := { upLink with state := st, retry := n, tAck := some 0, tResp := some 0, tIdle := some 0 }
    (∀ st n, (onLine (k st n)).link 0 = k st n) ∧ (k .up 5).par.nRetry = 5 ∧ upLink.tAck ≠ some 0 ∧ upLink.tIdle ≠ some 0 :=
  ⟨fun _ _ => rfl, by decide, by decide, by decide⟩

theorem witness_ArbiterKeepsTheOrder :
    let s := polling twoEntries 2 (some ⟨1, 0⟩)
    (s.link 0).goBack = some ⟨1, 0⟩ ∧ (∃ e ∈ (s.link 0).rtx, e.ns = 1) ∧ s.choose 0 = some (.retransmit ⟨1, 3, 5, .ctl .closed⟩)
    ∧ (s.line 0).enabled = true ∧ (s.line 0).tx = none ∧ (onLine upLink).choose 0 = none := by decide

theorem witness_TakingsStampTheirFrames : (Taking.link .opn = .link .opn) ∧ ∀ f, Taking.resend ≠ .link f := ⟨rfl, fun _ => by simp⟩

theorem witness_TakingsWithoutAnEntry : upLink.peerEpoch = some 9#8 ∧ upLink.agreed = some 8 ∧ upLink.params = some (Params.defaults .active)
    ∧ ((polling twoEntries 2 (some ⟨1, 0⟩)).link 0).goBack = some ⟨1, 0⟩ := by decide

theorem witness_TakingsWithAnEntry :
    let a (r : Option Reason) : Answer := { refuse := r, peerCh := 5, ourCh := 3 }
    let s := (onLine { upLink with answers := [a none, a (some .busy)], ready := [3, 4] }).setChan 3
      { openChan with owed := { credit := true }, sendQ := [someMsg] }
    (s.link 0).answers = a none :: [a (some .busy)] ∧ (s.link 0).ready = 3 :: [4] ∧ (s.chan 3).remote = some 5
    ∧ (s.chan 3).sendQ = someMsg :: [] ∧ (s.chan 3).link = 0 := by decide

theorem witness_AcknowledgementFreesEntries :
    let k := (polling twoEntries 2 none).link 0
    (0#5 - k.va).toNat = 0 ∧ 0 < (1#5 - k.va).toNat ∧ (2#5 - k.va).toNat = k.rtx.length := by decide

theorem witness_EndAndAbortGiveUpTheRecord : ((up openChan).chan 3).state = .opened
    ∧ ((up (openingChan {})).chan 3).state = .opening ∧ ((up { openChan with state := .closing }).chan 3).state = .closing := by decide

/-- Frames at the last character of the escaped body not yet begun, and at the closing delimiter. -/
theorem witness_TeardownEmptiesTheLink : inUse.RecordsOk ∧ inUse.PoolOk ∧ ((up openChan).chan 3).link = 0
    ∧ ((up openChan).setChan 4 { openChan with link := 1 }).chan 4 ≠ {} ∧ (1 : LinkId) ≠ 0
    ∧ (inSequence (.ctl .closed)).lineChars.length = 9 ∧ 7 + 1 < 9 ∧ ¬ 8 + 1 < 9 :=
  ⟨inUse_records, inUse_pool, by decide +kernel⟩

/-- 11.5: record 8 at the head, with a want of 9 against 5 and 9 free-unreserved blocks, and no want when it is closing. -/
theorem witness_CreditOwedListIsServedInTurn :
    let c : Chan := { state := .opened, remote := some 1, rxWindow := 16, rxHeld := 7 }
    let s (c : Chan) (free : Nat) := (State.reset.setChan 8 c).setPool { free, reserved := 40, creditOwed := [8, 3] }
    (∀ c n, (s c n).pool.creditOwed = 8 :: [3] ∧ (s c n).chan 8 = c) ∧ (s c 40).pool.free - (s c 40).pool.reserved = 0
    ∧ (s c 45).pool.free - (s c 45).pool.reserved = 5 ∧ (s c 49).pool.free - (s c 49).pool.reserved = 9
    ∧ c.rxWindow - c.rxHeld - (c.rxGranted - c.rxConsumed).toNat = 9 ∧ c.owed.close = none ∧ State.reset.pool.creditOwed = [] :=
  ⟨fun _ _ => ⟨rfl, rfl⟩, by decide, by decide, by decide, by decide, by decide, by decide⟩

theorem witness_PostsJoinTheEventQueue :
    let e := linkEvent 0 .linkUp none 4
    let q (n : Nat) : HostPort := { session := .attached, events := List.replicate n e }
    let reading : HostPort := { session := .attached, events := [overflowRecord 65535], txn := .readEvent (some (overflowRecord 3)) 65535 }
    (({} : HostPort).session ≠ .attached)
    ∧ ((q 30).events.filter fun f => f.kind ≠ .overflow).length = 30 ∧ ((q 31).events.filter fun f => f.kind ≠ .overflow).length = 31
    ∧ (∀ t, (q 31).events.getLast? = some t → t.kind ≠ .overflow)
    ∧ reading.events = [] ++ [overflowRecord 65535] ∧ (overflowRecord 65535).kind = .overflow
    ∧ reading.txn = .readEvent (some (overflowRecord 3)) 65535 := by
  refine ⟨by decide, by decide, by decide, fun t h => ?_, by decide, by decide, by decide⟩
  simp at h
  subst h
  decide

end Sys2Proof.Tests
end

section
/-! SUPPORT. What the arbiter of a link chooses (Table 4-2): it can be taken, and nothing of a lower place can. -/

namespace Sys2Proof.Machine

/-! ## The search of a class (R84) -/

/-- The distance of an id from a round-robin pointer, in the order of a search. -/
def distance (ptr i : ChanId) : Nat := (i - ptr - 1).val

theorem distance_le (ptr i : ChanId) : distance ptr i ≤ 31 := by
  unfold distance; omega

/-- A search visits the ids by their distance from the pointer. -/
theorem searchOrder_pairwise (ptr : ChanId) : (searchOrder ptr).Pairwise fun i j => distance ptr i < distance ptr j := by
  have dist (k : Nat) : distance ptr (ptr + 1 + Fin.ofNat 32 k) = k % 32 := by
    have e : ptr + 1 + Fin.ofNat 32 k - ptr - 1 = Fin.ofNat 32 k := by abel
    rw [distance, e]; rfl
  rw [searchOrder, List.pairwise_map]
  refine List.pairwise_lt_range.imp_of_mem fun {a b} ha hb h => ?_
  rw [List.mem_range] at ha hb
  rw [dist, dist]; omega

/-- A search visits every id. -/
theorem mem_searchOrder (ptr i : ChanId) : i ∈ searchOrder ptr := by
  refine List.mem_map.mpr ⟨distance ptr i, List.mem_range.mpr (by have := distance_le ptr i; omega), ?_⟩
  simp [distance]

/-- A record is eligible with a message exactly when it may send it (R84). -/
theorem eligible_iff {c : Chan} {l : LinkId} {m : TxMsg} : c.eligible l = some m ↔ c.mayData l m := by
  unfold Chan.eligible Chan.mayData
  rcases c.sendQ with _ | ⟨x, q⟩
  · simp
  · simp only [List.head?_cons, Option.ite_none_right_eq_some, Option.some.injEq]
    constructor
    · rintro ⟨⟨hl, hs⟩, hb, rfl⟩; exact ⟨hl, hs, rfl, hb⟩
    · rintro ⟨hl, hs, rfl, hb⟩; exact ⟨⟨hl, hs⟩, hb, rfl⟩

/-- What a search of a class finds: a record of the class with a message that it may send. -/
theorem searchClass_sound {s : State} {l : LinkId} {cls : ChClass} {ptr i : ChanId} {m : TxMsg}
    (h : s.searchClass l cls ptr = some (i, m)) : (s.chan i).cls = cls ∧ (s.chan i).mayData l m := by
  obtain ⟨j, -, hj⟩ := List.exists_of_findSome?_eq_some h
  simp only [Option.ite_none_right_eq_some, Option.map_eq_some_iff, Prod.mk.injEq] at hj
  obtain ⟨hc, x, hx, rfl, rfl⟩ := hj
  exact ⟨hc, eligible_iff.mp hx⟩

/-- A search of a class finds nothing farther from the pointer than a record of the class that may send. -/
theorem searchClass_nearest {s : State} {l : LinkId} {cls : ChClass} {j : ChanId} {n : TxMsg} (ptr : ChanId)
    (hc : (s.chan j).cls = cls) (hj : (s.chan j).mayData l n) :
    ∃ i m, s.searchClass l cls ptr = some (i, m) ∧ distance ptr i ≤ distance ptr j := by
  have found : (if (s.chan j).cls = cls then ((s.chan j).eligible l).map fun m => (j, m) else none) = some (j, n) := by
    simp [hc, eligible_iff.mpr hj]
  cases hf : s.searchClass l cls ptr with
  | none =>
    have := List.findSome?_eq_none_iff.mp hf j (mem_searchOrder ptr j)
    rw [found] at this; cases this
  | some x =>
    obtain ⟨before, i, after, hl, hi, hn⟩ := List.findSome?_eq_some_iff.mp hf
    have hp := searchOrder_pairwise ptr
    have hm := mem_searchOrder ptr j
    rw [hl] at hp hm
    have hx : x.1 = i := by
      simp only [Option.ite_none_right_eq_some, Option.map_eq_some_iff] at hi
      obtain ⟨-, _, -, rfl⟩ := hi; rfl
    refine ⟨x.1, x.2, rfl, ?_⟩
    rw [hx]
    rcases List.mem_append.mp hm with hm | hm
    · have := hn j hm; rw [found] at this; cases this
    · rcases List.mem_cons.mp hm with rfl | hm
      · exact le_rfl
      · exact ((List.pairwise_cons.mp (List.pairwise_append.mp hp).2.1).1 j hm).le

/-! ## The choice (R75, R76) -/

/-- The owed member of the highest rank (R23). -/
theorem top_iff {o : Owed} {m : Member} : o.top = some m ↔ o.owesFirst m := by
  rcases o with ⟨_ | _, _ | _, _ | _, _ | _⟩ <;> cases m <;> simp [Owed.top, Owed.owesFirst]

theorem top_isSome {o : Owed} (h : o ≠ {}) : ∃ m, o.top = some m := by
  rcases o with ⟨_ | _, _ | _, _ | _, _ | _⟩ <;> simp [Owed.top] at h ⊢

theorem windowOpen_iff {k : Link} : k.windowOpen = true ↔ k.hasRoom := by
  unfold Link.windowOpen Link.hasRoom
  cases k.agreed <;> simp

/-- The first owed link frame can be taken, in every state of the link (R75). -/
theorem first_takeable {s : State} {l : LinkId} {f : LinkFrameKind} (h : (s.link l).owedLink.first = some f) :
    s.Takeable l (.link f) := by
  generalize ho : (s.link l).owedLink = o at h
  rcases o with ⟨_ | _, _ | _, _ | _, _ | _⟩ <;> cases f <;> simp [OwedLink.first, State.Takeable, ho] at h ⊢

/-- An owed link frame gives way only to one of a lower place (R75). -/
theorem first_lowest {s : State} {l : LinkId} {g : LinkFrameKind} (h : s.Takeable l (.link g)) :
    ∃ f, (s.link l).owedLink.first = some f ∧ s.rank l (.link f) ≤ s.rank l (.link g) := by
  generalize ho : (s.link l).owedLink = o at *
  rcases o with ⟨_ | _, _ | _, _ | _, _ | _⟩ <;> cases g <;> simp [OwedLink.first, State.Takeable, State.rank, ho] at h ⊢

theorem chooseData_takeable {s : State} {l : LinkId} {x : ChanId × TxMsg} (hu : (s.link l).state = .up) (hr : (s.link l).hasRoom)
    (h : s.chooseData l = some x) : s.Takeable l (.data x.1 x.2) := by
  rcases Option.or_eq_some_iff.mp h with h | ⟨-, h⟩
  all_goals exact ⟨hu, hr, (searchClass_sound h).2⟩

/-- What is chosen among the new sequenced frames can be taken (R79, R81, R83, R84). -/
theorem chooseNew_takeable {s : State} {l : LinkId} {t : Taking} (hu : (s.link l).state = .up) (h : s.chooseNew l = some t) :
    s.Takeable l t := by
  simp only [State.chooseNew, Option.ite_none_right_eq_some, Option.or_eq_some_iff, Option.map_eq_some_iff] at h
  obtain ⟨hw, ⟨a, ha, rfl⟩ | ⟨-, ⟨x, hx, rfl⟩ | ⟨-, x, hx, rfl⟩⟩⟩ := h
  · exact ⟨hu, windowOpen_iff.mp hw, ha⟩
  · simp only [State.headReady, Option.bind_eq_some_iff, Option.map_eq_some_iff] at hx
    obtain ⟨i, hi, m, hm, rfl⟩ := hx
    exact ⟨hu, windowOpen_iff.mp hw, hi, top_iff.mp hm⟩
  · exact chooseData_takeable hu (windowOpen_iff.mp hw) hx

/-- With no link frame owed, nothing is chosen outside UP; in UP the supervisory frames come first, then a go-back pass, then a new
sequenced frame, and last a plain STATUS (R76). -/
theorem choose_of_no_link {s : State} {l : LinkId} (h : (s.link l).owedLink.first = none) :
    s.choose l = if (s.link l).state ≠ .up then none
      else if (s.link l).owedSup.answer || (s.link l).owedSup.poll then some .statusFrame
      else if (s.link l).owedSup.resend then some .resend
      else if (s.link l).goBack.isSome then (s.link l).atPointer.map Taking.retransmit
      else (s.chooseNew l).or (if (s.link l).owedSup.ack then some .plainStatus else none) := by
  simp only [State.choose, h]
  cases (s.link l).goBack <;> rfl

theorem choose_of_link {s : State} {l : LinkId} {f : LinkFrameKind} (h : (s.link l).owedLink.first = some f) :
    s.choose l = some (.link f) := by simp only [State.choose, h]

/-- The entry at the go-back pointer. -/
theorem atPointer_takeable {s : State} {l : LinkId} {e : Entry} (hu : (s.link l).state = .up)
    (h : (s.link l).atPointer = some e) : s.Takeable l (.retransmit e) := by
  obtain ⟨g, hg, he⟩ := Option.bind_eq_some_iff.mp h
  exact ⟨hu, g, hg, List.mem_of_find?_eq_some he, by simpa using List.find?_some he⟩

/-- What the arbiter chooses can be taken. -/
theorem choose_takeable {s : State} {l : LinkId} {t : Taking} (h : s.choose l = some t) : s.Takeable l t := by
  cases hf : (s.link l).owedLink.first with
  | some f => rw [choose_of_link hf] at h; cases h; exact first_takeable hf
  | none =>
    rw [choose_of_no_link hf] at h
    split at h
    · cases h
    rename_i hu
    replace hu : (s.link l).state = .up := by simpa using hu
    split at h
    case isTrue hs => cases h; exact ⟨hu, by simpa using hs⟩
    split at h
    case isTrue hr => cases h; exact ⟨hu, hr⟩
    split at h
    · obtain ⟨e, he, rfl⟩ := Option.map_eq_some_iff.mp h
      exact atPointer_takeable hu he
    · rcases Option.or_eq_some_iff.mp h with h | ⟨-, h⟩
      · exact chooseNew_takeable hu h
      · obtain ⟨ha, h⟩ := Option.ite_none_right_eq_some.mp h
        cases h; exact ⟨hu, ha⟩

/-- Outside UP nothing but a link frame can be taken (R75). -/
theorem Takeable.up {s : State} {l : LinkId} {u : Taking} (h : s.Takeable l u) (hn : ∀ f, u ≠ .link f) : (s.link l).state = .up := by
  cases u with
  | link f => exact absurd rfl (hn f)
  | statusFrame | resend | retransmit _ | answer _ | ready _ _ | data _ _ | plainStatus => exact h.1

/-- A new sequenced frame: an answer, a channel frame that is owed, or DATA (rank 5 of Table 4-2). -/
def Taking.isNew : Taking → Prop
  | .answer _ | .ready _ _ | .data _ _ => True
  | .link _ | .statusFrame | .resend | .retransmit _ | .plainStatus => False

theorem rank_urgent {s : State} {i : ChanId} (l : LinkId) (m : TxMsg) (h : (s.chan i).cls = .urgent) :
    s.rank l (.data i m) = 9 + distance (s.link l).rrUrgent i := by simp only [State.rank, h]; rfl

theorem rank_normal {s : State} {i : ChanId} (l : LinkId) (m : TxMsg) (h : (s.chan i).cls = .normal) :
    s.rank l (.data i m) = 41 + distance (s.link l).rrNormal i := by simp only [State.rank, h]; rfl

theorem rank_data_bounds (s : State) (l : LinkId) (i : ChanId) (m : TxMsg) :
    9 ≤ s.rank l (.data i m) ∧ s.rank l (.data i m) ≤ 72 := by
  cases h : (s.chan i).cls with
  | urgent => have := distance_le (s.link l).rrUrgent i; rw [rank_urgent l m h]; omega
  | normal => have := distance_le (s.link l).rrNormal i; rw [rank_normal l m h]; omega

/-- DATA gives way only to DATA of a lower place: URGENT first, and within a class the nearest to the pointer (R84). -/
theorem chooseData_lowest {s : State} {l : LinkId} {j : ChanId} {n : TxMsg} (h : (s.chan j).mayData l n) :
    ∃ x, s.chooseData l = some x ∧ s.rank l (.data x.1 x.2) ≤ s.rank l (.data j n) := by
  unfold State.chooseData
  cases hu : s.searchClass l .urgent (s.link l).rrUrgent with
  | some x =>
    refine ⟨x, rfl, ?_⟩
    rw [rank_urgent l x.2 (searchClass_sound hu).1]
    cases hc : (s.chan j).cls with
    | normal => have := distance_le (s.link l).rrUrgent x.1; rw [rank_normal l n hc]; omega
    | urgent =>
      obtain ⟨i, m, hi, hd⟩ := searchClass_nearest (s.link l).rrUrgent hc h
      rw [hu] at hi; cases hi
      rw [rank_urgent l n hc]
      exact Nat.add_le_add_left hd 9
  | none =>
    cases hc : (s.chan j).cls with
    | urgent =>
      obtain ⟨i, m, hi, -⟩ := searchClass_nearest (s.link l).rrUrgent hc h
      rw [hu] at hi; cases hi
    | normal =>
      obtain ⟨i, m, hi, hd⟩ := searchClass_nearest (s.link l).rrNormal hc h
      refine ⟨(i, m), by simp [hi], ?_⟩
      rw [rank_normal l n hc, rank_normal l m (searchClass_sound hi).1]; omega

/-- A new sequenced frame gives way only to one of a lower place (R81, R83, R84). -/
theorem chooseNew_lowest {s : State} {l : LinkId} {u : Taking} (hn : u.isNew) (h : s.Takeable l u) :
    ∃ t, s.chooseNew l = some t ∧ s.rank l t ≤ s.rank l u := by
  have room : (s.link l).hasRoom := by
    cases u with
    | answer _ | ready _ _ | data _ _ => exact h.2.1
    | link _ | statusFrame | resend | retransmit _ | plainStatus => exact hn.elim
  simp only [State.chooseNew, windowOpen_iff.mpr room, if_true]
  cases ha : (s.link l).headAnswer with
  | some a =>
    refine ⟨.answer a, rfl, ?_⟩
    cases u with
    | answer _ | ready _ _ => simp [State.rank]
    | data i m => have := (rank_data_bounds s l i m).1; show 7 ≤ _; omega
    | link _ | statusFrame | resend | retransmit _ | plainStatus => exact hn.elim
  | none =>
    cases hr : s.headReady l with
    | some x =>
      refine ⟨.ready x.1 x.2, rfl, ?_⟩
      cases u with
      | answer a => exact absurd (ha.symm.trans h.2.2) (by simp)
      | ready _ _ => exact le_rfl
      | data i m => have := (rank_data_bounds s l i m).1; show 8 ≤ _; omega
      | link _ | statusFrame | resend | retransmit _ | plainStatus => exact hn.elim
    | none =>
      cases u with
      | answer a => exact absurd (ha.symm.trans h.2.2) (by simp)
      | ready i m =>
        obtain ⟨-, -, hi, hm⟩ := h
        simp [State.headReady, hi, top_iff.mpr hm] at hr
      | data i m =>
        obtain ⟨x, hx, hle⟩ := chooseData_lowest h.2.2
        exact ⟨.data x.1 x.2, by simp [hx], hle⟩
      | link _ | statusFrame | resend | retransmit _ | plainStatus => exact hn.elim

/-- The places of the kinds that are taken in UP alone. -/
theorem rank_place (s : State) (l : LinkId) {u : Taking} (h : ∀ f, u ≠ .link f) :
    u = .statusFrame ∧ s.rank l u = 4 ∨ u = .resend ∧ s.rank l u = 5 ∨ (∃ e, u = .retransmit e) ∧ s.rank l u = 6
      ∨ (u.isNew ∧ 7 ≤ s.rank l u ∧ s.rank l u ≤ 72) ∨ u = .plainStatus ∧ s.rank l u = 73 := by
  cases u with
  | link f => exact absurd rfl (h f)
  | data i m => have := rank_data_bounds s l i m; exact .inr (.inr (.inr (.inl ⟨trivial, by omega, this.2⟩)))
  | statusFrame | resend | retransmit _ | answer _ | ready _ _ | plainStatus => simp [State.rank, Taking.isNew]

theorem chooseNew_isNew {s : State} {l : LinkId} {t : Taking} (h : s.chooseNew l = some t) : t.isNew := by
  simp only [State.chooseNew, Option.ite_none_right_eq_some, Option.or_eq_some_iff, Option.map_eq_some_iff] at h
  obtain ⟨-, ⟨_, -, rfl⟩ | ⟨-, ⟨_, -, rfl⟩ | ⟨-, _, -, rfl⟩⟩⟩ := h
  all_goals trivial

/-- Whatever can be taken, the arbiter chooses something of no higher place in the order of Table 4-2. -/
theorem choose_lowest {s : State} {l : LinkId} {u : Taking} (h : s.Takeable l u)
    (hg : ∀ g, (s.link l).goBack = some g → ∃ e ∈ (s.link l).rtx, e.ns = g.pointer) :
    ∃ t, s.choose l = some t ∧ s.rank l t ≤ s.rank l u := by
  cases hf : (s.link l).owedLink.first with
  | some f =>
    refine ⟨.link f, choose_of_link hf, ?_⟩
    by_cases hu : ∃ g, u = .link g
    · obtain ⟨g, rfl⟩ := hu
      obtain ⟨f', hf', hle⟩ := first_lowest h
      rw [hf] at hf'; cases hf'; exact hle
    · have hr : s.rank l (.link f) ≤ 3 := by cases f <;> simp [State.rank]
      have := rank_place s l (not_exists.mp hu)
      omega
  | none =>
    have nolink : ∀ f, u ≠ .link f := by
      rintro f rfl
      obtain ⟨f', hf', -⟩ := first_lowest h
      rw [hf] at hf'; cases hf'
    have place := rank_place s l nolink
    rw [choose_of_no_link hf, if_neg (not_not.mpr (Takeable.up h nolink))]
    by_cases hs : ((s.link l).owedSup.answer || (s.link l).owedSup.poll) = true
    · exact ⟨.statusFrame, if_pos hs, by show 4 ≤ _; omega⟩
    rw [if_neg hs]
    rcases place with ⟨rfl, -⟩ | place
    · exact absurd h.2 (by simpa using hs)
    by_cases hr : (s.link l).owedSup.resend = true
    · exact ⟨.resend, if_pos hr, by show 5 ≤ _; omega⟩
    rw [if_neg hr]
    rcases place with ⟨rfl, -⟩ | place
    · exact absurd h.2 hr
    cases hb : (s.link l).goBack with
    | some g =>
      obtain ⟨e, he, hp⟩ := hg g hb
      obtain ⟨x, hx⟩ : ∃ x, (s.link l).atPointer = some x := by
        rw [← Option.isSome_iff_exists, Link.atPointer, hb, Option.bind_some, List.find?_isSome]
        exact ⟨e, he, by simpa using hp⟩
      exact ⟨.retransmit x, by simp [hx], by show 6 ≤ _; omega⟩
    | none =>
      rcases place with ⟨⟨e, rfl⟩, -⟩ | ⟨hn, -⟩ | ⟨rfl, hr⟩
      · obtain ⟨-, g, hg', -⟩ := h
        rw [hb] at hg'; cases hg'
      · obtain ⟨t, ht, hle⟩ := chooseNew_lowest hn h
        exact ⟨t, by simp [ht], hle⟩
      · cases ht : s.chooseNew l with
        | none => exact ⟨.plainStatus, by simp [h.2], le_rfl⟩
        | some t =>
          refine ⟨t, by simp, ?_⟩
          have new := chooseNew_isNew ht
          have := rank_place s l (u := t) (by rintro f rfl; exact new)
          omega

/-- Settles O52: the choice can be taken, and everything else that can be taken stands at its place or a lower one. -/
theorem arbiterKeepsTheOrder : Obligations.ArbiterKeepsTheOrder := by
  intro s l hg
  refine ⟨fun t ht => ⟨choose_takeable ht, fun u hu => ?_⟩, fun hn u hu => ?_, fun t he hf ht => ?_, fun hb => ?_⟩
  · obtain ⟨t', ht', hle⟩ := choose_lowest hu hg
    rw [ht] at ht'; cases ht'; exact hle
  · obtain ⟨t', ht', -⟩ := choose_lowest hu hg
    rw [hn] at ht'; cases ht'
  · simp [State.arbitrate, he, hf, ht]
  · rcases hb with hb | hb
    · simp [State.arbitrate, hb]
    · simp [State.arbitrate, hb]

end Sys2Proof.Machine
end

section
/-! SUPPORT. Laws of the channel table: what a step may do to the records and to the control-ready lists, said once, so that a law that
every such change keeps is kept by every step. -/

namespace Sys2Proof.Machine

/-! ## States with the same table -/

/-- The records of two states are the same, and so are the states and the control-ready lists of their links. -/
structure SameTable (s u : State) : Prop where
  chan : ∀ i, u.chan i = s.chan i
  state : ∀ l, (u.link l).state = (s.link l).state
  ready : ∀ l, (u.link l).ready = (s.link l).ready

namespace SameTable
variable {s u v : State}

theorem refl (s : State) : SameTable s s := ⟨fun _ => rfl, fun _ => rfl, fun _ => rfl⟩

theorem trans (h : SameTable s u) (h' : SameTable u v) : SameTable s v :=
  ⟨fun i => (h'.chan i).trans (h.chan i), fun l => (h'.state l).trans (h.state l), fun l => (h'.ready l).trans (h.ready l)⟩

/-- Ports, line ports, the pool and the model's own fields are not the table. -/
theorem of_parts (hc : u.chans = s.chans) (hl : u.links = s.links) : SameTable s u := by
  constructor <;> simp [State.chan, State.link, hc, hl]

theorem setLink {l : LinkId} {k : Link} (hs : k.state = (s.link l).state) (hr : k.ready = (s.link l).ready) :
    SameTable s (s.setLink l k) := by
  refine ⟨fun _ => rfl, fun m => ?_, fun m => ?_⟩
  all_goals rw [link_setLink_ite]; split
  all_goals simp_all

theorem setPort (s : State) (p : Slot) (x : HostPort) : SameTable s (s.setPort p x) := of_parts rfl rfl
theorem setLine (s : State) (l : LinkId) (x : LinePort) : SameTable s (s.setLine l x) := of_parts rfl rfl
theorem setPool (s : State) (x : Pool) : SameTable s (s.setPool x) := of_parts rfl rfl

theorem postAll (s : State) (e : Event) : SameTable s (s.postAll e) :=
  ⟨fun _ => postAll_chan .., fun _ => by rw [postAll_link], fun _ => by rw [postAll_link]⟩

theorem postOthers (s : State) (p : Slot) (e : Event) : SameTable s (s.postOthers p e) :=
  ⟨fun _ => postOthers_chan .., fun _ => by rw [postOthers_link], fun _ => by rw [postOthers_link]⟩

/-- Changes one after another, none of which touches the table. -/
theorem foldl {α : Type} {f : State → α → State} (h : ∀ s a, SameTable s (f s a)) (as : List α) (s : State) :
    SameTable s (as.foldl f s) := by
  induction as generalizing s with
  | nil => exact refl s
  | cons a as ih => exact (h s a).trans (ih _)

end SameTable

/-- The laws of the control-ready lists speak of the table alone. -/
theorem ReadyOk.same {s u : State} (h : s.ReadyOk) (e : SameTable s u) : u.ReadyOk where
  live i hi := by rw [e.chan] at *; rw [e.state]; exact h.live i hi
  quiet i hi := by rw [e.chan] at *; exact h.quiet i hi
  once l := by rw [e.ready]; exact h.once l
  exact l i := by rw [e.ready, e.chan]; exact h.exact l i

/-! ## The change of one record -/

/-- The control-ready list `q` of its link is as R24 leaves it when the owed set of record `i` goes from `old` to `new`. -/
def ReadyUpdate (s u : State) (i : ChanId) (new : Owed) : Prop :=
  ∀ l, (u.link l).ready.Perm
    (if l = (s.chan i).link then readyAfter i (s.chan i).owed new (s.link l).ready else (s.link l).ready)

/-- From `s` to `u` record `i` becomes `c`, no other record changes and no link changes its state; the control-ready list of the link
of the record is kept in step (R24), in an order that is left open. -/
structure Becomes (s u : State) (i : ChanId) (c : Chan) : Prop where
  self : u.chan i = c
  others : ∀ j, j ≠ i → u.chan j = s.chan j
  state : ∀ l, (u.link l).state = (s.link l).state
  ready : s.ReadyOk → ReadyUpdate s u i c.owed

@[simp] theorem readyAfter_self (i : ChanId) (o : Owed) (q : List ChanId) : readyAfter i o o q = q := by
  rw [readyAfter_eq]; simp

namespace Becomes
variable {s u v : State} {i : ChanId} {c d : Chan}

theorem setChan (h : c.owed = (s.chan i).owed) : Becomes s (s.setChan i c) i c where
  self := chan_setChan ..
  others j hj := chan_setChan_ne _ _ hj
  state l := rfl
  ready _ l := by rw [h]; simp

/-- A record without a pairing, which owes nothing, replaced by one that owes nothing. -/
theorem setQuiet (hs : (s.chan i).state.onLine = false) (h : c.owed = {}) : Becomes s (s.setChan i c) i c where
  self := chan_setChan ..
  others j hj := chan_setChan_ne _ _ hj
  state l := rfl
  ready r l := by rw [h, r.quiet i hs]; simp

theorem setOwed (s : State) (i : ChanId) (o : Owed) : Becomes s (s.setOwed i o) i { s.chan i with owed := o } where
  self := setOwed_chan_self ..
  others j hj := setOwed_chan_ne _ _ hj
  state l := by rw [setOwed_eq, link_setLink_ite]; split <;> simp_all
  ready _ l := by rw [setOwed_eq, link_setLink_ite]; split <;> simp_all

theorem before (e : SameTable s u) (h : Becomes u v i c) : Becomes s v i c where
  self := h.self
  others j hj := (h.others j hj).trans (e.chan j)
  state l := (h.state l).trans (e.state l)
  ready hs l := by simpa [e.chan, e.ready] using h.ready (ReadyOk.same hs e) l

theorem after (h : Becomes s u i c) (e : SameTable u v) : Becomes s v i c where
  self := (e.chan i).trans h.self
  others j hj := (e.chan j).trans (h.others j hj)
  state l := (e.state l).trans (h.state l)
  ready hs l := by rw [e.ready]; exact h.ready hs l

/-- A further change of the record that leaves its owed set. -/
theorem thenSet (h : Becomes s u i c) (ho : d.owed = c.owed) : Becomes s (u.setChan i d) i d where
  self := chan_setChan ..
  others j hj := (chan_setChan_ne _ _ hj).trans (h.others j hj)
  state l := h.state l
  ready hs l := by rw [ho]; exact h.ready hs l

/-- A change of the owed set after a change of the record that left it. -/
theorem thenOwed (h : Becomes s u i c) (hc : c.owed = (s.chan i).owed) (hl : c.link = (s.chan i).link) (o : Owed) :
    Becomes s (u.setOwed i o) i { c with owed := o } where
  self := by rw [setOwed_chan_self, h.self]
  others j hj := (setOwed_chan_ne _ _ hj).trans (h.others j hj)
  state l := ((setOwed u i o).state l).trans (h.state l)
  ready hs l := by
    have h1 := h.ready hs l
    rw [setOwed_eq, h.self, hc, hl, link_setLink_ite]
    by_cases e : l = (s.chan i).link
    · subst e
      simp only [hc, readyAfter_self, if_true] at h1 ⊢
      rw [readyAfter_eq, readyAfter_eq]
      split_ifs
      · exact h1.append_right _
      · exact h1.filter _
      · exact h1
    · simpa [e] using h1

end Becomes

/-- A change of record `i` that a law of the table may have to keep: the record enters a pairing only on a link that is UP, a record
without a pairing owes nothing, and the law of records holds of the record afterwards if it held before. `W` is what is known besides. -/
structure Change (W : Prop) (s u : State) (i : ChanId) (c : Chan) : Prop extends Becomes s u i c where
  link : c.link = (s.chan i).link ∨ c.owed = {}
  live : c.state.onLine = true → (s.chan i).state.onLine = true ∧ c.link = (s.chan i).link ∨ (s.link c.link).state = .up
  quiet : c.state.onLine = false → c.owed = {} ∨ (s.chan i).state.onLine = false ∧ ((s.chan i).owed = {} → c.owed = {})
  ok : W → (s.chan i).Ok → c.Ok

/-- No record bound to link `l` holds a pairing. -/
def State.OffLine (s : State) (l : LinkId) : Prop := ∀ i, (s.chan i).link = l → (s.chan i).state.onLine = false

/-- A law of the table, with what is known besides (`W`): the changes of single records keep it, and so do the changes of a link that
holds no pairings. -/
structure TableLaw (W : Prop) (P : State → Prop) : Prop where
  same : ∀ {s u}, SameTable s u → P s → P u
  cleared : ∀ {s}, (∀ i, s.chan i = {}) → (∀ l, s.link l = {}) → P s
  offLine : ∀ {s l} {k : Link}, (s.link l).state ≠ .up ∨ s.OffLine l → k.ready = [] ∨ k.ready = (s.link l).ready →
    P s → P (s.setLink l k)
  change : ∀ {s u i c}, Change W s u i c → P s → P u

/-! ## The two laws -/

theorem mem_readyAfter {i j : ChanId} {old new : Owed} {q : List ChanId} (h : i ∈ q ↔ old ≠ {}) :
    j ∈ readyAfter i old new q ↔ (if j = i then new ≠ {} else j ∈ q) := by
  rw [readyAfter_eq]
  by_cases ho : old = {} <;> by_cases hn : new = {} <;> by_cases ji : j = i <;> simp_all

theorem nodup_readyAfter {i : ChanId} {old new : Owed} {q : List ChanId} (h : i ∈ q ↔ old ≠ {}) (hq : q.Nodup) :
    (readyAfter i old new q).Nodup := by
  rw [readyAfter_eq]
  split_ifs with h1
  · exact (List.nodup_append_comm.mp (List.nodup_cons.mpr ⟨by simp [h, h1.1], hq⟩ : ([i] ++ q).Nodup))
  · exact hq.filter _
  · exact hq

/-- A record that changes lawfully leaves the control-ready lists exact. -/
theorem Change.readyOk {W : Prop} {s u : State} {i : ChanId} {c : Chan} (e : Change W s u i c) (h : s.ReadyOk) : u.ReadyOk := by
  have mem (l : LinkId) : i ∈ (s.link l).ready ↔ (s.chan i).link = l ∧ (s.chan i).owed ≠ {} := h.exact l i
  have home : i ∈ (s.link (s.chan i).link).ready ↔ (s.chan i).owed ≠ {} := by simp [mem]
  refine ⟨fun j hj => ?_, fun j hj => ?_, fun l => ?_, fun l j => ?_⟩
  · rw [e.state]
    by_cases ji : j = i
    · subst ji
      rw [e.self] at *
      rcases e.live hj with ⟨h1, h2⟩ | h1
      · rw [h2]; exact h.live j h1
      · exact h1
    · rw [e.others j ji] at *; exact h.live j hj
  · by_cases ji : j = i
    · subst ji
      rw [e.self] at *
      rcases e.quiet hj with h1 | ⟨h1, h2⟩
      · exact h1
      · exact h2 (h.quiet j h1)
    · rw [e.others j ji] at *; exact h.quiet j hj
  · rw [(e.ready h l).nodup_iff]
    split
    · rename_i hl; subst hl; exact nodup_readyAfter home (h.once _)
    · exact h.once l
  · rw [(e.ready h l).mem_iff]
    by_cases ji : j = i
    · subst ji
      rw [e.self]
      split
      · rename_i hl; subst hl
        rw [mem_readyAfter home, if_pos rfl]
        rcases e.link with hl | ho <;> simp_all
      · rename_i hl
        rw [mem]
        rcases e.link with hl' | ho
        · simp [hl', Ne.symm hl]
        · simp [ho, Ne.symm hl]
    · rw [e.others j ji, ← h.exact l j]
      split
      · rename_i hl; subst hl; rw [mem_readyAfter home, if_neg ji]
      · rfl

/-- A link that is not UP, or whose records hold no pairings, has an empty control-ready list. -/
theorem ReadyOk.ready_nil {s : State} {l : LinkId} (h : s.ReadyOk) (ho : s.OffLine l) : (s.link l).ready = [] := by
  rw [List.eq_nil_iff_forall_not_mem]
  intro i hi
  obtain ⟨hl, hn⟩ := (h.exact l i).mp hi
  exact hn (h.quiet i (ho i hl))

theorem ReadyOk.offLine {s : State} {l : LinkId} (h : s.ReadyOk) (hu : (s.link l).state ≠ .up) : s.OffLine l := by
  intro i hi
  by_contra hn
  exact hu (hi ▸ h.live i (by simpa using hn))

/-- The control-ready lists and the pairings obey a law of the table (R24, R82, R134). -/
theorem readyOk_law : TableLaw False State.ReadyOk where
  same e h := ReadyOk.same h e
  cleared hc hl := by
    refine ⟨fun i hi => ?_, fun i _ => by rw [hc], fun l => by rw [hl]; exact List.nodup_nil, fun l i => by rw [hc, hl]; simp⟩
    rw [hc] at hi; cases hi
  offLine {s l k} ho hr h := by
    replace ho : s.OffLine l := ho.elim (ReadyOk.offLine h) id
    have nil : k.ready = (s.link l).ready := by rcases hr with hr | hr <;> rw [hr, ReadyOk.ready_nil h ho]
    refine ⟨fun i hi => ?_, h.quiet, fun m => ?_, fun m i => ?_⟩
    · have : (s.chan i).link ≠ l := fun e => by
        rw [chan_setLink, ho i e] at hi; cases hi
      rw [chan_setLink, link_setLink_ne _ _ this]; exact h.live i hi
    · rw [link_setLink_ite]; split
      · rw [nil]; exact h.once l
      · exact h.once m
    · rw [link_setLink_ite]; split
      · rename_i e; subst e; rw [nil]; exact h.exact m i
      · exact h.exact m i
  change e h := e.readyOk h

/-- The law of the channel records is a law of the table. -/
theorem recordsOk_law {W : Prop} (w : W) : TableLaw W State.RecordsOk where
  same e h i := by rw [e.chan]; exact h i
  cleared hc _ i := by rw [hc]; constructor <;> decide
  offLine _ _ h i := h i
  change {s u i c} e h j := by
    by_cases ji : j = i
    · subst ji; rw [e.self]; exact e.ok w (h j)
    · rw [e.others j ji]; exact h j

end Sys2Proof.Machine
end

section
/-! SUPPORT. The law of a channel record across each change that the rules of chapters 1, 4, 5, 6 and 7 make of it (Table 1-4). -/

namespace Sys2Proof.Machine

/-- A record that takes part in an open handshake or a conversation: OPENING, OPEN or CLOSING. -/
def Chan.Talks (c : Chan) : Prop := c.state = .opening ∨ c.state = .opened ∨ c.state = .closing

/-- A record of an open conversation: OPEN or CLOSING. -/
def Chan.Flows (c : Chan) : Prop := c.state = .opened ∨ c.state = .closing

theorem Chan.Talks.onLine {c : Chan} (h : c.Talks) : c.state.onLine = true := by
  rcases h with h | h | h <;> rw [h] <;> rfl

/-- A record of an open conversation is in no other state. -/
theorem Chan.Flows.ne {c : Chan} (h : c.Flows) {st : ChState} (hst : st ≠ .opened ∧ st ≠ .closing := by decide) : c.state ≠ st := by
  rintro rfl; exact h.elim hst.1 hst.2

theorem Chan.Flows.talks {c : Chan} (h : c.Flows) : c.Talks := .inr h

/-- A CLOSING record after the send queue has run empty owes CLOSE (R85, R123). -/
def Owed.drained (o : Owed) : Owed := { o with credit := false, close := some false }

@[simp] theorem heldBlocks_nil : heldBlocks [] = 0 := rfl
@[simp] theorem heldBlocks_cons (m : RxMsg) (q : List RxMsg) : heldBlocks (m :: q) = m.blocks + heldBlocks q := by
  simp [heldBlocks]
@[simp] theorem heldBlocks_append (p q : List RxMsg) : heldBlocks (p ++ q) = heldBlocks p + heldBlocks q := by
  simp [heldBlocks]

namespace Chan
variable {c : Chan}

theorem default_ok : Chan.Ok {} := by constructor <;> decide

theorem Talks.window (ht : c.Talks) (h : c.Ok) : 1 ≤ c.rxWindow ∧ c.rxWindow ≤ 64 :=
  h.window (by rcases ht with e | e | e <;> simp [e])

/-! ## Reservations and grants -/

/-- Outstanding credit released (R96). -/
theorem released_ok (h : c.Ok) : ({ c with rxGranted := 0, rxConsumed := 0 } : Chan).Ok :=
  { h with
    free := fun e => by have := h.free e; subst this; rfl
    receive := by have := h.receive; simp [Chan.outstanding]; omega
    granting := fun _ => ⟨rfl, rfl⟩ }

/-- A grant within the want of an OPEN record (R89, R100). -/
theorem granted_ok (h : c.Ok) (ho : c.state = .opened) {g : Nat} (hg : g ≤ c.want) :
    ({ c with rxGranted := c.rxGranted + BitVec.ofNat 8 g, owed := { c.owed with credit := true } } : Chan).Ok :=
  { h with
    free := fun e => by simp [ho] at e
    receive := by
      have := h.receive
      have := (h.window (by simp [ho])).2
      simp only [Chan.want, Chan.outstanding] at *
      bv_omega
    granting := fun e => by simp [ho] at e
    listen := fun e => by simp [ho] at e
    opening := fun e => by simp [ho] at e
    opened := h.opened
    closing := fun e => by simp [ho] at e
    ended := fun e => by simp [ho] at e
    aborting := fun e => by simp [ho] at e
    creditFirst := fun e => by simp [(h.opened ho).2] at e }

/-! ## The life of a record -/

/-- A record taken by CH-LISTEN (R6). -/
theorem listening_ok (p : Slot) (l : LinkId) (b : TakeBody) (h1 : 1 ≤ b.rxWindow) (h2 : b.rxWindow ≤ 64) : (listening p l b).Ok := by
  constructor
  case window => exact fun _ => ⟨h1, h2⟩
  all_goals simp [listening, ChState.onLine, Chan.outstanding]

/-- A record taken by CH-OPEN, its reservation made (R8, R95). -/
theorem openingRecord_ok (p : Slot) (l : LinkId) (b : TakeBody) (h1 : 1 ≤ b.rxWindow) (h2 : b.rxWindow ≤ 64) (h3 : b.remote ≤ 31) :
    (openingRecord p l b).Ok := by
  constructor
  case window => exact fun _ => ⟨h1, h2⟩
  case remote => exact fun _ => by simp [openingRecord, remoteOf, chanOf, show b.remote < 32 by omega]
  case receive => simp [openingRecord, Chan.outstanding]; omega
  all_goals simp [openingRecord]

/-- OPEN made owed by an OPENING record (R8). -/
theorem owesOpen_ok (h : c.Ok) (ho : c.state = .opening) : ({ c with owed := { opn := true } } : Chan).Ok :=
  { h with
    free := fun e => by simp [ho] at e
    listen := fun e => by simp [ho] at e
    opening := fun e => ⟨(h.opening e).1, .inr rfl⟩
    opened := fun e => by simp [ho] at e
    closing := fun e => by simp [ho] at e
    ended := fun e => by simp [ho] at e
    aborting := fun e => by simp [ho] at e
    creditFirst := fun e => by simp at e }

/-- A record that ends (R121). -/
theorem endedWith_ok (h : c.Ok) (ht : c.Talks) (r : Reason) : (c.endedWith r).Ok := by
  constructor
  case window => exact fun _ => ht.window h
  case remote => exact fun _ => h.remote (.inl ht.onLine)
  case held => exact h.held
  case receive => have := h.receive; simp [Chan.endedWith, Chan.outstanding]; omega
  all_goals simp [Chan.endedWith]

/-- A record that is aborted (R122). -/
theorem aborted_ok (h : c.Ok) (ht : c.Talks) : c.aborted.Ok := by
  constructor
  case window => exact fun _ => ht.window h
  case remote => exact fun _ => h.remote (.inl ht.onLine)
  case receive => simp [Chan.aborted, Chan.outstanding]
  case aborting => exact fun _ => ⟨rfl, rfl⟩
  case creditFirst => simp [Chan.aborted]; split <;> simp
  all_goals simp [Chan.aborted]

/-- The credit of a record that has just entered OPEN (R11). -/
theorem available_opens (c : Chan) (w : Nat) (hw : w ≤ 64) : (c.opens w).available = w := by
  simp [Chan.available, Chan.opens]; omega

/-- A record that completes an open handshake, owing no OPEN and no CLOSE, with its reservation made (R11, R89). -/
theorem opens_ok (h : c.Ok) {w : Nat} (hw : 1 ≤ w ∧ w ≤ 64) (hs : c.state = .opening) {o : Owed} (ho : o.opn = false)
    (hc : o.close = none) : ({ c.opens w with owed := o } : Chan).Ok := by
  constructor
  case window => exact fun _ => h.window (by simp [hs])
  case remote => exact fun _ => h.remote (.inl (by simp [hs, ChState.onLine]))
  case held => exact h.held
  case receive => exact h.receive
  case opened => exact fun _ => ⟨ho, hc⟩
  case closeSent => exact fun e => by have := h.closeSent e; simp [hs] at this
  case peerCredit => exact fun _ => ⟨(available_opens c w hw.2).le, hw⟩
  case reason => exact fun _ => h.reason (by simp [hs])
  case listening => exact fun _ => h.listening (by simp [hs])
  case refused => exact h.refused
  all_goals simp [Chan.opens, hc]

/-- A LISTEN record that accepts (R13, R95). -/
theorem accepts_ok (h : c.Ok) {w : Nat} (hw : 1 ≤ w ∧ w ≤ 64) (hs : c.state = .listen) (src : ChanId) :
    ({ c.opens w with
      remote := some src, rxConsumed := 0, rxGranted := BitVec.ofNat 8 c.rxWindow, refusedAttempts := 0, owed := { accept := true } } :
        Chan).Ok := by
  have win := h.window (by simp [hs])
  have none : c.rxHeld = 0 := by rw [h.held, (h.listen hs).1]; rfl
  constructor
  case window => exact fun _ => win
  case held => exact h.held
  case receive => simp [Chan.opens, Chan.outstanding, none]; omega
  case closeSent => exact fun e => by have := h.closeSent e; simp [hs] at this
  case peerCredit => exact fun _ => ⟨(available_opens c w hw.2).le, hw⟩
  case reason => exact fun _ => h.reason (by simp [hs])
  all_goals simp [Chan.opens]

/-- An OPEN record that enters CLOSING (R123). -/
theorem closing_ok (h : c.Ok) (hs : c.state = .opened) :
    ({ c with state := .closing, closeSent := false, owed := if c.sendQ = [] then c.owed.drained else c.owed } : Chan).Ok := by
  obtain ⟨open_, close⟩ := h.opened hs
  constructor
  case window => exact fun _ => h.window (by simp [hs])
  case remote => exact fun _ => h.remote (.inl (by simp [hs, ChState.onLine]))
  case held => exact h.held
  case receive => exact h.receive
  case closing => intro _; split <;> simp_all [Owed.drained]
  case creditFirst => split <;> simp_all [Owed.drained]
  case sendMax => exact h.sendMax
  case peerCredit => exact fun _ => h.peerCredit (.inl hs)
  case reason => exact fun _ => h.reason (by simp [hs])
  case listening => exact fun _ => h.listening (by simp [hs])
  case refused => exact h.refused
  all_goals simp

/-! ## Messages and credit -/

/-- A message queued (R109). -/
theorem queued_ok (h : c.Ok) (ho : c.state = .opened) (hl : c.sendQ.length < 16) (m : TxMsg) :
    ({ c with sendQ := c.sendQ ++ [m] } : Chan).Ok :=
  { h with
    free := fun e => by simp [ho] at e
    closing := fun e => by simp [ho] at e
    sendQueue := fun e => absurd ho e.1
    sendMax := by simp; omega }

/-- The head of the receive queue taken (R117). -/
theorem popped_ok (h : c.Ok) {m : RxMsg} {q : List RxMsg} (hq : c.recvQ = m :: q) :
    ({ c with recvQ := c.recvQ.tail, rxHeld := c.rxHeld - m.blocks } : Chan).Ok :=
  have held : c.rxHeld = m.blocks + heldBlocks q := by rw [h.held, hq]; simp
  { h with
    free := fun e => by rw [h.free e] at hq; cases hq
    held := by simp [held, hq]
    receive := by have := h.receive; simp only [Chan.outstanding] at *; omega
    listen := fun e => by simp [(h.listen e).1] at hq
    opening := fun e => by simp [(h.opening e).1] at hq
    aborting := fun e => by simp [(h.aborting e).1] at hq }

/-- A message placed within the outstanding credit (R89, R97). -/
theorem placed_ok (h : c.Ok) (hs : c.Flows) (m : RxMsg) (hm : m.blocks ≤ c.outstanding) :
    ({ c with rxConsumed := c.rxConsumed + BitVec.ofNat 8 m.blocks, rxHeld := c.rxHeld + m.blocks, recvQ := c.recvQ ++ [m] } : Chan).Ok :=
  { h with
    free := fun e => absurd e hs.ne
    held := by simp [h.held]
    receive := by
      have := h.receive
      have := (h.window (by rcases hs with e | e <;> simp [e])).2
      simp only [Chan.outstanding] at *
      bv_omega
    granting := fun e => absurd hs (not_or.mpr e.2)
    listen := fun e => absurd e hs.ne
    opening := fun e => absurd e hs.ne
    aborting := fun e => absurd e hs.ne }

/-- A limit taken (R102). -/
theorem limited_ok (h : c.Ok) (hs : c.Flows) {limit : Credit} (hl : c.takesLimit limit = true) :
    ({ c with txLimit := limit } : Chan).Ok :=
  { h with
    free := fun e => absurd e hs.ne
    peerCredit := fun e => ⟨(of_decide_eq_true hl).2.2, (h.peerCredit e).2⟩
    crediting := fun e => absurd hs (not_or.mpr e) }

/-- An attempt refused at a LISTEN record (R14). -/
theorem refused_ok (h : c.Ok) (hs : c.state = .listen) :
    ({ c with refusedAttempts := min (c.refusedAttempts + 1) 255 } : Chan).Ok :=
  { h with
    free := fun e => by simp [hs] at e
    listening := fun e => absurd hs e
    refused := by simp }

/-! ## Frames sent -/

/-- A record whose owed set has a first member owes something. -/
theorem ne_of_owesFirst {o : Owed} {m : Member} (h : o.owesFirst m) : o ≠ {} := by
  rintro rfl; cases m <;> simp [Owed.owesFirst] at h

/-- A channel frame sent for the owed member of the highest rank (R23). -/
theorem sentMember_ok (h : c.Ok) {m : Member} (hm : c.owed.owesFirst m) :
    ({ c with owed := c.owed.remove m, closeSent := c.closeSent || m == .close } : Chan).Ok :=
  have owes := ne_of_owesFirst hm
  { h with
    free := fun e => absurd (by rw [h.free e]) owes
    listen := fun e => absurd (h.listen e).2 owes
    opening := fun e => by
      obtain ⟨hq, ho⟩ := h.opening e
      have ho := ho.resolve_left owes
      refine ⟨hq, .inl ?_⟩
      rw [ho] at hm ⊢
      cases m <;> simp [Owed.owesFirst, Owed.remove] at hm ⊢
    opened := fun e => by
      obtain ⟨h1, h2⟩ := h.opened e
      cases m <;> simp [Owed.remove, h1, h2]
    closing := fun e => by
      obtain ⟨h1, h2, h3, h4⟩ := h.closing e
      have unsent : c.closeSent = false := by
        by_contra hn; exact owes (h3 (by simpa using hn)).2
      replace h4 := h4 unsent
      cases m with
      | opn => simp [Owed.owesFirst, h1] at hm
      | accept | credit => simp [Owed.remove, h1, h2, h4, unsent]
      | close =>
        obtain ⟨ho, ha, hc, hx⟩ := hm
        obtain ⟨a, hx⟩ := Option.isSome_iff_exists.mp hx
        cases a with
        | true => exact absurd hx h2
        | false => simp [Owed.remove, ho, ha, hc, h4.mp hx]
    ended := fun e => absurd (h.ended e).1 owes
    aborting := fun e => by
      obtain ⟨hq, ho⟩ := h.aborting e
      refine ⟨hq, ?_⟩
      split at ho
      · exact absurd ho owes
      · rw [ho] at hm ⊢
        cases m <;> simp [Owed.owesFirst, Owed.remove] at hm ⊢
    creditFirst := fun e => by
      have := h.creditFirst
      cases m <;> simp_all [Owed.remove]
    closeSent := fun e => by
      rcases Bool.or_eq_true_iff.mp e with e | e
      · exact h.closeSent e
      · obtain rfl : m = .close := by simpa using e
        obtain ⟨ho, ha, hc, hx⟩ := hm
        cases hs : c.state with
        | closing | aborting => simp
        | free => exact absurd (by rw [h.free hs]) owes
        | listen => exact absurd (h.listen hs).2 owes
        | opening => rcases (h.opening hs).2 with e | e <;> simp [e] at hx
        | opened => simp [(h.opened hs).2] at hx
        | ended => exact absurd (h.ended hs).1 owes }

/-- A DATA frame sent within the available credit (R85, R123). -/
theorem sentData_ok (h : c.Ok) {l : LinkId} {m : TxMsg} (hm : c.mayData l m) :
    ({ c with
      sendQ := c.sendQ.tail, txUsed := c.txUsed + BitVec.ofNat 8 m.blocks,
      owed := if c.state = .closing ∧ c.sendQ.tail = [] then c.owed.drained else c.owed } : Chan).Ok := by
  obtain ⟨-, hs, hq, hb⟩ := hm
  replace hs : c.Flows := hs
  have unsent : c.state = .closing → c.closeSent = false := fun e => by
    by_contra hn
    obtain ⟨he, -⟩ := (h.closing e).2.2.1 (by simpa using hn)
    simp [he] at hq
  exact { h with
    free := fun e => absurd e hs.ne
    listen := fun e => absurd e hs.ne
    opening := fun e => absurd e hs.ne
    opened := fun e => by
      have e : c.state = .opened := e
      simpa [e] using h.opened e
    closing := fun e => by
      have e : c.state = .closing := e
      obtain ⟨h1, h2, h3, h4⟩ := h.closing e
      have h4 : c.owed.close = some false ↔ c.sendQ = [] := h4 (unsent e)
      have : c.sendQ ≠ [] := by rintro he; simp [he] at hq
      by_cases ht : c.sendQ.tail = []
      · simp [e, ht, Owed.drained, h1, unsent e]
      · simp [e, ht, h1, h2, h4, unsent e, this]
    ended := fun e => absurd e hs.ne
    aborting := fun e => absurd e hs.ne
    creditFirst := fun e => by
      dsimp only at e ⊢
      split
      · rfl
      · rename_i hd; rw [if_neg hd] at e; exact h.creditFirst e
    sendQueue := fun e => absurd hs (not_or.mpr e)
    sendMax := by have := h.sendMax; simp; omega
    peerCredit := fun e => by
      obtain ⟨h1, h2⟩ := h.peerCredit hs
      refine ⟨?_, h2⟩
      have blocks : m.blocks = (m.payload.length + 63) / 64 := rfl
      simp only [Chan.available, ← blocks] at *
      bv_omega
    crediting := fun e => absurd hs (not_or.mpr e) }

end Chan
end Sys2Proof.Machine
end

section
/-! SUPPORT. What each operation of the channel table does to its record and to the control-ready lists, and that every law of the table
is kept by it. -/

namespace Sys2Proof.Machine

/-! ## What each operation makes of its record -/

section Becomes
variable {s u : State} {i : ChanId} {c : Chan}

theorem freeTxMsgs_same (s : State) (ms : List TxMsg) : SameTable s (s.freeTxMsgs ms) := .of_parts rfl rfl
theorem freeRxMsgs_same (s : State) (ms : List RxMsg) : SameTable s (s.freeRxMsgs ms) := .of_parts rfl rfl
theorem clearNotify_same (s : State) (i : ChanId) : SameTable s (s.clearNotify i) := .setLink rfl rfl
theorem postTo_same (s : State) (p : Slot) (e : Event) : SameTable s (s.postTo p e) := .setPort s p _
theorem count_same (s : State) (l : LinkId) (f : Counters → Counters) : SameTable s (s.count l f) := .setLink rfl rfl
theorem answer_same (s : State) (l : LinkId) (a : Answer) : SameTable s (s.answer l a) := .setLink rfl rfl

theorem becomes_self (s : State) (i : ChanId) : Becomes s s i (s.chan i) where
  self := rfl
  others _ _ := rfl
  state _ := rfl
  ready _ l := by simp

/-- Credit released after other changes of the record (R96). -/
theorem Becomes.thenReleased (h : Becomes s u i c) :
    Becomes s (u.releaseCredit i) i { c with rxGranted := 0, rxConsumed := 0 } := by
  unfold State.releaseCredit
  dsimp only
  rw [h.self]
  exact .after (.thenSet h rfl) (.setPool ..)

/-- A record that ends, before the credit-owed list is served (R121). -/
theorem endChan_becomes (s : State) (i : ChanId) (r : Reason) :
    ∃ w, s.endChan i r = w.serve ∧ Becomes s w i ((s.chan i).endedWith r) :=
  ⟨_, rfl, .after (.thenSet (.after (.thenReleased (.before (freeTxMsgs_same ..) (.setOwed ..))) (clearNotify_same ..)) rfl)
    (postTo_same ..)⟩

/-- A record that is aborted, before the credit-owed list is served (R122). -/
theorem abortChan_becomes (s : State) (i : ChanId) : ∃ w, s.abortChan i = w.serve ∧ Becomes s w i (s.chan i).aborted := by
  have e := (freeTxMsgs_same s (s.chan i).sendQ).trans (freeRxMsgs_same _ (s.chan i).recvQ)
  exact ⟨_, rfl, .thenSet (.thenOwed (.after (.thenReleased (.before e (becomes_self ..))) (clearNotify_same ..)) rfl rfl _) rfl⟩

theorem freeChan_becomes (s : State) (i : ChanId) : Becomes s (s.freeChan i) i {} := .thenSet (.setOwed s i {}) rfl

/-- A record that completes an open handshake (R11). -/
theorem enterOpen_becomes (s : State) (i : ChanId) (w : Nat) : Becomes s (s.enterOpen i w) i ((s.chan i).opens w) :=
  .after (.thenSet (becomes_self s i) rfl) (postTo_same ..)

/-- A LISTEN record that accepts (R13). -/
theorem acceptOpen_becomes (s : State) (i src : ChanId) (w : Nat) : Becomes s (s.acceptOpen i src w) i { (s.chan i).opens w with
    remote := some src, rxConsumed := 0, rxGranted := BitVec.ofNat 8 (s.chan i).rxWindow, refusedAttempts := 0,
    owed := { accept := true } } := by
  unfold State.acceptOpen State.enterOpen
  simp only [chan_setChan, setChan_setChan]
  refine .thenOwed (c := { (s.chan i).opens w with
    remote := some src, rxConsumed := 0, rxGranted := BitVec.ofNat 8 (s.chan i).rxWindow, refusedAttempts := 0 }) ?_ rfl rfl _
  exact .after (.before (.setPool s (s.pool.reserve (s.chan i).rxWindow)) (.setChan rfl)) (postTo_same ..)

/-- The owed set of a crossing open: an OPEN still owed is replaced by ACCEPT (R15). -/
def Owed.crossed (o : Owed) : Owed := if o.opn then { o with opn := false, accept := true } else o

theorem crossOpen_becomes (s : State) (i : ChanId) (w : Nat) :
    Becomes s (s.crossOpen i w) i { (s.chan i).opens w with owed := (s.chan i).owed.crossed } := by
  unfold State.crossOpen Owed.crossed
  dsimp only
  split
  · exact .thenOwed (enterOpen_becomes s i w) rfl rfl _
  · exact enterOpen_becomes s i w

theorem closeRecord_becomes (s : State) (i : ChanId) : Becomes s (s.closeRecord i) i { s.chan i with
    state := .closing, closeSent := false, owed := if (s.chan i).sendQ = [] then (s.chan i).owed.drained else (s.chan i).owed } := by
  have h : Becomes s ((s.setChan i { s.chan i with state := .closing, closeSent := false }).setCreditOwed
      (s.pool.creditOwed.filter (· != i))) i { s.chan i with state := .closing, closeSent := false } :=
    .after (.setChan rfl) (.setPool ..)
  unfold State.closeRecord
  simp only [List.isEmpty_iff]
  split
  · exact .thenOwed h rfl rfl _
  · exact h

/-- A grant above 0 (R100). -/
theorem raiseGrant_becomes (s : State) (i : ChanId) {g : Nat} (h : g ≠ 0) :
    Becomes s (s.raiseGrant i g) i { s.chan i with
      rxGranted := (s.chan i).rxGranted + BitVec.ofNat 8 g
      owed := if (s.chan i).owed.close.isSome then (s.chan i).owed else { (s.chan i).owed with credit := true } } := by
  have e : Becomes s ((s.setChan i { s.chan i with rxGranted := (s.chan i).rxGranted + BitVec.ofNat 8 g }).setPool (s.pool.reserve g)) i
      { s.chan i with rxGranted := (s.chan i).rxGranted + BitVec.ofNat 8 g } := .after (.setChan rfl) (.setPool ..)
  simp only [State.raiseGrant, if_neg h, State.oweCredit, e.self]
  split
  · exact e
  · exact e.thenOwed rfl rfl _

/-- A new sequenced frame taken leaves the table. -/
theorem takeNew_same (s : State) (l : LinkId) (dst src : ChanId) (b : EntryBody) : SameTable s (s.takeNew l dst src b) := by
  refine .trans (.setLink ?_ ?_) (.setLine ..)
  all_goals unfold Link.appended; dsimp only; split <;> rfl

theorem served_same (s : State) (l : LinkId) (cls : ChClass) (i : ChanId) :
    SameTable s (s.setLink l ((s.link l).served cls i)) := by
  cases cls <;> exact .setLink rfl rfl

/-- DATA taken for the chosen record (R85). -/
theorem takeData_becomes (s : State) (l : LinkId) (i : ChanId) (m : TxMsg) :
    Becomes s (s.takeData l i m) i { s.chan i with
      sendQ := (s.chan i).sendQ.tail, txUsed := (s.chan i).txUsed + BitVec.ofNat 8 m.blocks,
      owed := if (s.chan i).state = .closing ∧ (s.chan i).sendQ.tail = [] then (s.chan i).owed.drained else (s.chan i).owed } := by
  have e := takeNew_same s l ((s.chan i).remote.getD 0) i (.data m)
  have h := Becomes.thenSet (d := { s.chan i with
    sendQ := (s.chan i).sendQ.tail, txUsed := (s.chan i).txUsed + BitVec.ofNat 8 m.blocks })
    ((becomes_self s i).after (e.trans (served_same _ l (s.chan i).cls i))) rfl
  unfold State.takeData
  dsimp only
  split
  · exact .thenOwed h rfl rfl _
  · exact h

/-- A record of the control-ready list served (R83, R23): where the lists are exact, it moves to the tail or leaves. -/
theorem takeReady_becomes {s : State} {l : LinkId} {i : ChanId} (m : Member) (hi : (s.link l).ready.head? = some i) :
    Becomes s (s.takeReady l i m) i { s.chan i with
      owed := (s.chan i).owed.remove m, closeSent := (s.chan i).closeSent || m == .close } := by
  have e := takeNew_same s l ((s.chan i).remote.getD 0) i (.ctl ((s.chan i).snapshot m))
  obtain ⟨q, hq⟩ : ∃ q, (s.link l).ready = i :: q := by
    cases hr : (s.link l).ready with
    | nil => simp [hr] at hi
    | cons j q => simp [hr] at hi; exact ⟨q, by rw [hi]⟩
  unfold State.takeReady
  dsimp only
  refine ⟨by simp, fun j hj => ?_, fun k => ?_, fun hs k => ?_⟩
  · rw [chan_setLink, chan_setChan_ne _ _ hj, e.chan]
  · rw [link_setLink_ite]
    split
    · rename_i hk; subst hk; exact e.state _
    · exact e.state k
  · obtain ⟨hl, hne⟩ := (hs.exact l i).mp (by simp [hq])
    have new : i ∉ q := by have := hs.once l; rw [hq] at this; exact (List.nodup_cons.mp this).1
    rw [link_setLink_ite, hl]
    split
    · rename_i hk; subst hk
      have gone : (i :: q).filter (· != i) = q := by
        simpa using fun j hj => (ne_of_mem_of_not_mem hj new)
      simp only [link_setChan, e.ready, hq, List.tail_cons, readyAfter_eq, owed_isEmpty_iff]
      by_cases ho : (s.chan i).owed.remove m = {}
      · simp [ho, hne, gone]
      · simp [ho, hne]
    · simp [e.ready]

end Becomes

/-! ## The law across each operation -/

theorem grant_le_want {c : Chan} {g : Nat} (h : g ≤ c.openWant) (hg : g ≠ 0) : c.state = .opened ∧ g ≤ c.want := by
  unfold Chan.openWant at h
  split at h
  · exact ⟨‹_›, h⟩
  · omega

namespace TableLaw
variable {W : Prop} {P : State → Prop} {s : State} {i : ChanId} {l : LinkId} (law : TableLaw W P)
include law

/-! ### Links -/

theorem setPort (p : Slot) (x : HostPort) (h : P s) : P (s.setPort p x) := law.same (.setPort ..) h
theorem setLine (x : LinePort) (h : P s) : P (s.setLine l x) := law.same (.setLine ..) h
theorem setPool (x : Pool) (h : P s) : P (s.setPool x) := law.same (.setPool ..) h
theorem setLink {k : Link} (h : P s) (hs : k.state = (s.link l).state) (hr : k.ready = (s.link l).ready) : P (s.setLink l k) :=
  law.same (.setLink hs hr) h
theorem postTo (p : Slot) (e : Event) (h : P s) : P (s.postTo p e) := law.same (postTo_same ..) h
theorem postAll (e : Event) (h : P s) : P (s.postAll e) := law.same (.postAll ..) h

/-! ### Records -/

/-- A change of a record that its link does not see. -/
theorem setChan {c : Chan} (h : P s) (hs : c.state = (s.chan i).state) (hl : c.link = (s.chan i).link)
    (ho : c.owed = (s.chan i).owed) (ok : W → (s.chan i).Ok → c.Ok) : P (s.setChan i c) :=
  law.change { Becomes.setChan ho with
    link := .inl hl
    live := fun e => .inl ⟨hs ▸ e, hl⟩
    quiet := fun e => .inr ⟨hs ▸ e, fun q => ho.trans q⟩
    ok := ok } h

theorem raiseGrant {g : Nat} (h : P s) (hg : g ≤ (s.chan i).openWant) : P (s.raiseGrant i g) := by
  by_cases g0 : g = 0
  · simpa [State.raiseGrant, g0] using h
  obtain ⟨ho, hw⟩ := grant_le_want hg g0
  refine law.change { raiseGrant_becomes s i g0 with
    link := .inl rfl
    live := fun e => .inl ⟨e, rfl⟩
    quiet := fun e => by simp [ho, ChState.onLine] at e
    ok := fun _ ok => by simpa [(ok.opened ho).2] using Chan.granted_ok ok ho hw } h

/-- Serving the credit-owed list keeps what grants keep (R101). -/
theorem serve (h : P s) : P s.serve := by
  suffices ∀ q s, P s → P (State.serveList q s) from this _ s h
  intro q
  induction q with
  | nil => exact fun s h => law.setPool _ h
  | cons i rest ih =>
    intro s h
    have hg : P (s.raiseGrant i (min (s.chan i).openWant s.pool.unreserved)) := law.raiseGrant h (min_le_left ..)
    simp only [State.serveList]
    split_ifs
    · exact law.setPool _ h
    · exact law.setPool _ hg
    · exact ih _ hg

theorem grant (h : P s) : P (s.grant i) := by
  unfold State.grant
  dsimp only
  split
  · exact h
  rename_i ho
  have hg : P (s.raiseGrant i (min (s.chan i).want s.pool.unreserved)) :=
    law.raiseGrant h (by simp [Chan.openWant, not_not.mp ho])
  split
  · exact law.setPool _ hg
  · exact hg

theorem freeChan (h : P s) : P (s.freeChan i) :=
  law.change { freeChan_becomes s i with
    link := .inr rfl
    live := fun e => by cases e
    quiet := fun _ => .inl rfl
    ok := fun _ _ => Chan.default_ok } h

theorem endChan (r : Reason) (h : P s) (ht : (s.chan i).Talks) : P (s.endChan i r) := by
  obtain ⟨w, e, b⟩ := endChan_becomes s i r
  rw [e]
  exact law.serve (law.change { b with
    link := .inl rfl
    live := fun e => by cases e
    quiet := fun _ => .inl rfl
    ok := fun _ ok => Chan.endedWith_ok ok ht r } h)

theorem abortChan (h : P s) (ht : (s.chan i).Talks) : P (s.abortChan i) := by
  obtain ⟨w, e, b⟩ := abortChan_becomes s i
  rw [e]
  exact law.serve (law.change { b with
    link := .inl rfl
    live := fun _ => .inl ⟨ht.onLine, rfl⟩
    quiet := fun e => by cases e
    ok := fun _ ok => Chan.aborted_ok ok ht } h)

theorem freeAborted (h : P s) : P (s.freeAborted i) := law.postTo _ _ (law.freeChan h)

theorem releaseCredit (h : P s) : P (s.releaseCredit i) :=
  law.setPool _ (law.setChan h rfl rfl rfl fun _ ok => Chan.released_ok ok)

/-- A record given up (R127, R135). -/
theorem giveUp (h : P s) : P (s.giveUp i) := by
  unfold State.giveUp
  dsimp only
  split <;> rename_i hs
  · exact law.freeChan h
  · exact law.serve (law.freeChan (law.same (freeRxMsgs_same ..) h))
  · split
    · exact law.serve (law.freeChan (law.releaseCredit h))
    · exact law.abortChan h (.inl hs)
  · exact law.abortChan h (.inr (.inl hs))
  · exact law.abortChan h (.inr (.inr hs))
  · exact h
  · exact h

/-- A record enters OPEN from OPENING, owing no OPEN (R18). -/
theorem enterOpen {w : Nat} (h : P s) (hs : (s.chan i).state = .opening) (ho : (s.chan i).owed.opn = false) (hw : W → 1 ≤ w ∧ w ≤ 64) :
    P (s.enterOpen i w) :=
  law.change { enterOpen_becomes s i w with
    link := .inl rfl
    live := fun _ => .inl ⟨by rw [hs]; rfl, rfl⟩
    quiet := fun e => by cases e
    ok := fun k ok => Chan.opens_ok ok (hw k) hs ho (by rcases (ok.opening hs).2 with e | e <;> rw [e]) } h

theorem crossOpen {w : Nat} (h : P s) (hs : (s.chan i).state = .opening) (hw : W → 1 ≤ w ∧ w ≤ 64) : P (s.crossOpen i w) :=
  law.change { crossOpen_becomes s i w with
    link := .inl rfl
    live := fun _ => .inl ⟨by rw [hs]; rfl, rfl⟩
    quiet := fun e => by cases e
    ok := fun k ok => by
      refine Chan.opens_ok ok (hw k) hs ?_ ?_ <;> rcases (ok.opening hs).2 with e | e <;> rw [e] <;> rfl } h

theorem acceptOpen {src : ChanId} {w : Nat} (h : P s) (hs : (s.chan i).state = .listen)
    (hu : (s.link (s.chan i).link).state = .up) (hw : W → 1 ≤ w ∧ w ≤ 64) : P (s.acceptOpen i src w) :=
  law.change { acceptOpen_becomes s i src w with
    link := .inl rfl
    live := fun _ => .inr hu
    quiet := fun e => by cases e
    ok := fun k ok => Chan.accepts_ok ok (hw k) hs src } h

theorem closeRecord (h : P s) (hs : (s.chan i).state = .opened) : P (s.closeRecord i) :=
  law.change { closeRecord_becomes s i with
    link := .inl rfl
    live := fun _ => .inl ⟨by rw [hs]; rfl, rfl⟩
    quiet := fun e => by cases e
    ok := fun _ ok => Chan.closing_ok ok hs } h

/-- A FREE record taken by CH-LISTEN (R6). -/
theorem listening {p : Slot} {b : TakeBody} (h : P s) (hs : (s.chan i).state = .free) (hb : 1 ≤ b.rxWindow ∧ b.rxWindow ≤ 64) :
    P (s.setChan i (Machine.listening p l b)) :=
  law.change { Becomes.setQuiet (by rw [hs]; rfl) rfl with
    link := .inr rfl
    live := fun e => by cases e
    quiet := fun _ => .inl rfl
    ok := fun _ _ => Chan.listening_ok p l b hb.1 hb.2 } h

/-- A FREE record taken by CH-OPEN on a link that is UP (R8). -/
theorem openRecord {p : Slot} {b : TakeBody} (h : P s) (hs : (s.chan i).state = .free) (hu : (s.link l).state = .up)
    (hb : 1 ≤ b.rxWindow ∧ b.rxWindow ≤ 64) (hr : b.remote ≤ 31) : P (s.openRecord i p l b) := by
  have taken : P (s.setChan i (openingRecord p l b)) :=
    law.change { Becomes.setQuiet (by rw [hs]; rfl) rfl with
      link := .inr rfl
      live := fun _ => .inr hu
      quiet := fun e => by cases e
      ok := fun _ _ => Chan.openingRecord_ok p l b hb.1 hb.2 hr } h
  have opening : (((s.setChan i (openingRecord p l b)).setPool (s.pool.reserve b.rxWindow)).chan i).state = .opening := by
    simp [openingRecord]
  exact law.change { Becomes.setOwed _ i { opn := true } with
    link := .inl rfl
    live := fun e => .inl ⟨e, rfl⟩
    quiet := fun e => by rw [opening] at e; cases e
    ok := fun _ ok => Chan.owesOpen_ok ok opening } (law.setPool _ taken)

theorem takeReady {m : Member} (h : P s) (hi : (s.link l).ready.head? = some i) (hm : (s.chan i).owed.owesFirst m) :
    P (s.takeReady l i m) :=
  law.change { takeReady_becomes m hi with
    link := .inl rfl
    live := fun e => .inl ⟨e, rfl⟩
    quiet := fun e => .inr ⟨e, fun q => by rw [q]; cases m <;> rfl⟩
    ok := fun _ ok => Chan.sentMember_ok ok hm } h

theorem takeData {m : TxMsg} (h : P s) (hm : (s.chan i).mayData l m) : P (s.takeData l i m) :=
  law.change { takeData_becomes s l i m with
    link := .inl rfl
    live := fun e => .inl ⟨e, rfl⟩
    quiet := fun e => by have := (Chan.Flows.talks hm.2.1).onLine; rw [this] at e; cases e
    ok := fun _ ok => Chan.sentData_ok ok hm } h

end TableLaw
end Sys2Proof.Machine
end

section
/-! SUPPORT. Every step keeps every law of the channel table: the teardown of a link, the frames taken, the requests, the timers and the
resets, each made of the operations of the table. -/

namespace Sys2Proof.Machine

/-! ## Teardown (R46, R133) -/

/-- Serving the credit-owed list leaves the state and the link of every record, and the state of every link. -/
theorem serve_leaves (s : State) : (∀ i, (s.serve.chan i).state = (s.chan i).state ∧ (s.serve.chan i).link = (s.chan i).link)
    ∧ ∀ l, (s.serve.link l).state = (s.link l).state := by
  have h := serve_served s
  refine ⟨fun i => ⟨(h.chans i).state, (h.chans i).link⟩, fun l => ?_⟩
  obtain ⟨_, e, -⟩ := h.links l
  rw [e]

theorem offLine_serve {s : State} {l : LinkId} (h : s.OffLine l) : s.serve.OffLine l := by
  intro i hi
  obtain ⟨hs, hl⟩ := (serve_leaves s).1 i
  rw [hs]; exact h i (hl ▸ hi)

/-- A record torn down holds no pairing, and no other record changes its state or its link (R133). -/
theorem tearRecord_leaves (s : State) (i : ChanId) (r : Reason) : ((s.tearRecord i r).chan i).state.onLine = false
    ∧ ∀ j, j ≠ i → ((s.tearRecord i r).chan j).state = (s.chan j).state ∧ ((s.tearRecord i r).chan j).link = (s.chan j).link := by
  have ended : ((s.endChan i r).chan i).state.onLine = false
      ∧ ∀ j, j ≠ i → ((s.endChan i r).chan j).state = (s.chan j).state ∧ ((s.endChan i r).chan j).link = (s.chan j).link := by
    obtain ⟨w, e, b⟩ := endChan_becomes s i r
    refine ⟨by rw [e, ((serve_leaves w).1 i).1, b.self]; rfl, fun j hj => ?_⟩
    obtain ⟨h1, h2⟩ := (serve_leaves w).1 j
    rw [e, h1, h2, b.others j hj]; exact ⟨rfl, rfl⟩
  have freed := (freeChan_becomes s i).after (postTo_same _ (s.chan i).owner (s.chanEvent i .chFreed none 0))
  unfold State.tearRecord
  split <;> rename_i hs
  · exact ended
  · exact ended
  · exact ended
  · exact ⟨by rw [State.freeAborted, freed.self]; rfl, fun j hj => by rw [State.freeAborted, freed.others j hj]; exact ⟨rfl, rfl⟩⟩
  all_goals exact ⟨by rw [hs]; rfl, fun _ _ => ⟨rfl, rfl⟩⟩

theorem tearChannels_offLine (s : State) (l : LinkId) (r : Reason) : (s.tearChannels l r).OffLine l := by
  suffices ∀ (q : List ChanId) (s : State), (∀ i, i ∉ q → (s.chan i).link = l → (s.chan i).state.onLine = false) →
      (q.foldl (fun s i => if (s.chan i).link = l then s.tearRecord i r else s) s).OffLine l from
    this _ _ fun i hi => absurd (List.mem_finRange i) hi
  intro q
  induction q with
  | nil => exact fun s h i => h i (by simp)
  | cons i rest ih =>
    intro s h
    refine ih _ fun j hj hl => ?_
    obtain ⟨h1, h2⟩ := tearRecord_leaves s i r
    dsimp only at hl ⊢
    by_cases ji : j = i
    · subst ji
      split at hl
      · rename_i hc; rw [if_pos hc]; exact h1
      · rename_i hc; exact absurd hl hc
    · have old : j ∉ i :: rest := by simp [ji, hj]
      split at hl
      · rename_i hc; rw [if_pos hc, (h2 j ji).1]; exact h j old ((h2 j ji).2 ▸ hl)
      · rename_i hc; rw [if_neg hc]; exact h j old hl

/-- After a teardown no record of the link holds a pairing (R133, R134). -/
theorem teardown_offLine (s : State) (l : LinkId) (r : Reason) : (s.teardown l r).OffLine l := by
  have h := tearChannels_offLine s l r
  unfold State.teardown
  generalize s.tearChannels l r = t at h
  exact offLine_serve (s := (t.freeTxMsgs (dataMsgs (t.link l).rtx)).setLink l (t.link l).torn) h

/-! ## Acknowledgement and sequence -/

theorem acked_same (s : State) (l : LinkId) (nr : Seq) : SameTable s (s.setLink l ((s.link l).acked nr)) := by
  have h : ((s.link l).acked nr).state = (s.link l).state ∧ ((s.link l).acked nr).ready = (s.link l).ready := by
    unfold Link.acked; dsimp only; split_ifs <;> exact ⟨rfl, rfl⟩
  exact .setLink h.1 h.2

/-- An acknowledgement leaves the table, but for the serving of the credit-owed list (R57, R101). -/
theorem acknowledge_cases (s : State) (l : LinkId) (nr : Seq) :
    ∃ w, SameTable s w ∧ (s.acknowledge l nr = w ∨ s.acknowledge l nr = w.serve) := by
  unfold State.acknowledge
  dsimp only
  split
  · exact ⟨s, .refl s, .inl rfl⟩
  · refine ⟨_, .trans (.trans (freeTxMsgs_same ..) (acked_same ..)) (.foldl (fun s m => ?_) _ _), .inr rfl⟩
    split
    · exact postTo_same ..
    · exact .refl _

theorem acknowledge_state (s : State) (l m : LinkId) (nr : Seq) : ((s.acknowledge l nr).link m).state = (s.link m).state := by
  obtain ⟨w, hw, e | e⟩ := acknowledge_cases s l nr <;> rw [e]
  · exact hw.state m
  · exact ((serve_leaves w).2 m).trans (hw.state m)

/-- A good frame taken in UP leaves the table (R55). -/
theorem touchIdle_same (s : State) (l : LinkId) : SameTable s (s.setLink l (s.link l).touchIdle) := by
  unfold Link.touchIdle; split <;> exact .setLink rfl rfl

theorem accepted_same (s : State) (l : LinkId) : SameTable s (s.setLink l (s.link l).accepted) := by
  unfold Link.accepted; dsimp only; split <;> exact .setLink rfl rfl

theorem outOfSequence_same (s : State) (l : LinkId) : SameTable s (s.setLink l (s.link l).outOfSequence) := by
  unfold Link.outOfSequence; dsimp only; split <;> exact .setLink rfl rfl

/-- What the outcome of a command meets, when it goes on. -/
def Yields (o : StepOutcome) (P : State → Prop) : Prop := ∀ t, o = .next t → P t

theorem yields_next {P : State → Prop} {u : State} (h : P u) : Yields (.next u) P := by rintro _ ⟨⟩; exact h
theorem yields_refused {P : State → Prop} (r : Refusal) : Yields (.refused r) P := by rintro _ ⟨⟩

namespace TableLaw
variable {W : Prop} {P : State → Prop} {s : State} {i : ChanId} {l : LinkId} (law : TableLaw W P)
include law

theorem tearRecord (r : Reason) (h : P s) : P (s.tearRecord i r) := by
  unfold State.tearRecord
  split <;> rename_i hs
  · exact law.endChan r h (.inl hs)
  · exact law.endChan r h (.inr (.inl hs))
  · exact law.endChan r h (.inr (.inr hs))
  · exact law.freeAborted h
  all_goals exact h

theorem teardown (r : Reason) (h : P s) : P (s.teardown l r) := by
  have torn : P (s.tearChannels l r) := by
    refine List.foldlRecOn _ _ (law.setPool _ h) fun s h i _ => ?_
    split
    · exact law.tearRecord r h
    · exact h
  have off := tearChannels_offLine s l r
  unfold State.teardown
  generalize s.tearChannels l r = t at torn off
  exact law.setLine _ (law.serve (law.offLine (.inr off) (.inl rfl) (law.same (freeTxMsgs_same ..) torn)))

/-! ### Links that leave UP -/

theorem postLinkReason (kind : EventKind) (r : Reason) (h : P s) : P (s.postLinkReason l kind r) :=
  law.postAll _ (law.setLink h rfl rfl)

theorem enterDown (r : Reason) (hl : (s.link l).state ≠ .up ∨ s.OffLine l) (h : P s) : P (s.enterDown l r) :=
  law.postLinkReason _ _ (law.offLine hl (.inr rfl) h)

theorem completeStop (r : Reason) (hl : (s.link l).state ≠ .up) (h : P s) : P (s.completeStop l r) :=
  law.enterDown r (.inl (by simpa using hl)) (law.setLink h rfl rfl)

theorem enterFailed (r : Reason) (hl : (s.link l).state ≠ .up ∨ s.OffLine l) (h : P s) : P (s.enterFailed l r) :=
  law.postLinkReason _ _ (law.offLine hl (.inr rfl) h)

theorem establish (peer : Byte) (agreed : Nat) (hl : (s.link l).state ≠ .up) (h : P s) : P (s.establish l peer agreed) :=
  law.postAll _ (law.offLine (.inl hl) (.inl rfl) h)

theorem protocolReset (h : P s) : P (s.protocolReset l) := by
  have torn := law.teardown (l := l) .protocolError h
  have off := teardown_offLine s l .protocolError
  unfold State.protocolReset
  generalize s.teardown l .protocolError = t at torn off
  exact law.postLinkReason _ _ (law.offLine (.inr off) (.inr rfl) torn)

theorem acknowledge (nr : Seq) (h : P s) : P (s.acknowledge l nr) := by
  obtain ⟨w, hw, e | e⟩ := acknowledge_cases s l nr <;> rw [e]
  · exact law.same hw h
  · exact law.serve (law.same hw h)

/-- A frame that carries nr (R55): what it does in UP, after a valid nr, has to keep the law. -/
theorem withNr {nr : Seq} {act : State → State} (h : P s) (ha : ∀ u, P u → (u.link l).state = .up → P (act u)) :
    P (s.withNr l nr act) := by
  unfold State.withNr
  dsimp only
  split
  · exact h
  rename_i hu
  have e := touchIdle_same s l
  split
  · exact ha _ (law.acknowledge _ (law.same e h)) (by rw [acknowledge_state, e.state]; exact not_not.mp hu)
  · exact law.protocolReset (law.same e h)

theorem takeSequenced {ns nr : Seq} {deliver : State → State} (h : P s) (hd : ∀ u, P u → (u.link l).state = .up → P (deliver u)) :
    P (s.takeSequenced l ns nr deliver) := by
  refine law.withNr h fun u hu up => ?_
  dsimp only
  split
  · exact hd _ (law.same (accepted_same ..) hu) (by rw [(accepted_same u l).state]; exact up)
  · exact law.same (outOfSequence_same ..) hu

/-! ### The arbiter -/

theorem take {t : Taking} (h : P s) (ht : s.Takeable l t) : P (s.take l t) := by
  have hand (u : State) (f : Frame) (hu : P u) : P (u.hand l f) := law.setLine _ hu
  cases t with
  | link _ | statusFrame | resend | retransmit _ | plainStatus => exact hand _ _ (law.setLink h rfl rfl)
  | answer a => exact law.same (takeNew_same ..) (law.setLink h rfl rfl)
  | ready i m => exact law.takeReady h ht.2.2.1 ht.2.2.2
  | data i m => exact law.takeData h ht.2.2

theorem arbitrate (h : P s) : P (s.arbitrate l) := by
  unfold State.arbitrate
  dsimp only
  split
  · split
    · exact law.take h (choose_takeable ‹_›)
    · exact h
  · exact h

theorem settle (h : P s) : P s.settle := law.arbitrate (law.arbitrate h)

/-! ### Commands -/

theorem yields_settled {o : StepOutcome} (h : Yields o P) : Yields (settled o) P := by
  cases o with
  | next u => exact yields_next (law.settle (h u rfl))
  | fault r => cases r
  | refused r => exact yields_refused r

theorem rise (p : Slot) (bs : List Byte) (h : P s) : P (s.rise p bs) := law.setPort _ _ h

theorem updPort (p : Slot) (f : HostPort → HostPort) (h : P s) : P (s.updPort p f) := law.setPort _ _ h

theorem endTransaction {p : Slot} {n : Nat} {act : Txn → Option State} (h : P s) (ha : ∀ x u, act x = some u → P u) :
    Yields (s.endTransaction p n act) P := by
  unfold State.endTransaction
  split
  · exact yields_refused _
  split
  · exact yields_next (law.rise _ _ h)
  split
  · exact yields_next (ha _ _ ‹_›)
  · exact yields_refused _

theorem midTransaction {p : Slot} {n : Nat} {act : Txn → Option State} (h : P s) (ha : ∀ x u, act x = some u → P u) :
    Yields (s.midTransaction p n act) P := by
  unfold State.midTransaction
  dsimp only
  split
  · exact yields_next h
  split
  · exact yields_next (law.setPort _ _ h)
  split
  · exact yields_next (ha _ _ ‹_›)
  · exact yields_refused _

theorem freeStaged (p : Slot) (st : Staging) (h : P s) : P (s.freeStaged p st) := by
  cases st with
  | granted n => exact law.serve (law.setPool _ h)
  | none | refused _ => exact h

theorem request {p : Slot} {row : Byte → Bool} {body : List Byte} {act : Action} (h : P s) (ha : ∀ hd st, P (act hd st s).1) :
    Yields (s.request p row body act) P := by
  refine law.endTransaction h fun x u hu => ?_
  split at hu
  · rename_i hd st
    obtain ⟨-, hu⟩ := Option.ite_none_right_eq_some.mp hu
    cases hu
    refine law.rise _ _ (law.updPort _ _ ?_)
    split
    · exact law.freeStaged _ _ h
    · exact ha hd st
  · cases hu

theorem takeHeld {act : Frame → Option (State → State)} (h : P s)
    (ha : ∀ f ∈ (s.line l).held, ∀ g, act f = some g → ∀ u, P u → P (g u)) : Yields (s.takeHeld l act) P := by
  unfold State.takeHeld
  split
  · rename_i f rest hf
    split
    · exact yields_next (law.settle (ha f (by simp [hf]) _ ‹_› _ (law.setLine _ h)))
    · exact yields_refused _
  · exact yields_refused _

end TableLaw
end Sys2Proof.Machine
end

section
/-! SUPPORT. Every step keeps every law of the channel table, command by command; with it the law of the records and the law of the
control-ready lists. -/

namespace Sys2Proof.Machine

/-! ## Commands that leave the table -/

theorem receiveLevels_same (s : State) (l : LinkId) (levels : List Bool) : SameTable s (s.receiveLevels l levels) := by
  unfold State.receiveLevels
  dsimp only
  split
  · exact .refl s
  · refine .trans (.setLine ..) (.foldl (fun s c => ?_) _ _)
    rw [receiveChar_eq]
    refine .trans (.setLine ..) (.setLink ?_ ?_) <;> split <;> rfl

theorem tick_same (s : State) : SameTable s s.tick := by
  unfold State.tick
  split
  · exact .refl s
  · constructor <;> intro l <;> simp [State.chan, State.link, Link.tick]

/-- The controller of a link is not of the table (R34). -/
theorem vacate_same (s : State) (p : Slot) (l : LinkId) : SameTable s (s.vacate p l) := by
  unfold State.vacate
  dsimp only
  split
  · split
    · exact .setLink rfl rfl
    · refine .trans ?_ (.postOthers ..)
      exact .setLink rfl rfl
  · exact .refl s

/-- What an answered poll and an owed answer change is not of the table (R69, R70). -/
theorem takeStatusFlags_same (s : State) (l : LinkId) (poll answer : Bool) :
    SameTable s (s.setLink l ((s.link l).takeStatusFlags poll answer)) := by
  have flag (k : Link) : k.takeAnswerFlag.state = k.state ∧ k.takeAnswerFlag.ready = k.ready := by
    unfold Link.takeAnswerFlag; dsimp only; split_ifs <;> exact ⟨rfl, rfl⟩
  have h : ((s.link l).takeStatusFlags poll answer).state = (s.link l).state
      ∧ ((s.link l).takeStatusFlags poll answer).ready = (s.link l).ready := by
    unfold Link.takeStatusFlags
    cases poll <;> cases answer
    · exact ⟨rfl, rfl⟩
    · exact flag (s.link l)
    · exact ⟨rfl, rfl⟩
    · exact flag (s.link l).takePollFlag
  exact .setLink h.1 h.2

theorem takeResend_same (s : State) (l : LinkId) : SameTable s (s.setLink l (s.link l).takeResend) := by
  unfold Link.takeResend; split_ifs <;> exact .setLink rfl rfl

/-! ## What the checks of a command say -/

theorem free_of_resolve {s : State} {n : Nat} {i : ChanId} (h : s.resolve n = .ok i) : (s.chan i).state = .free := by
  unfold State.resolve at h
  split at h
  · split at h <;> cases h; assumption
  · split at h
    · cases h; rename_i hf; simpa using List.find?_some hf
    · cases h

theorem window_of_not_bad {b : TakeBody} (h : b.badCommon = false) : 1 ≤ b.rxWindow ∧ b.rxWindow ≤ 64 := by
  simp [TakeBody.badCommon] at h; omega

/-- A SEND that passes its checks names an OPEN record with room in its send queue (R109). -/
theorem room_of_sendCheck {s : State} {p : Slot} {h : ReqHeader} {st : Staging} {body : List Byte} {i : ChanId}
    (e : s.sendCheck p h st body = .ok i) : (s.chan i).state = .opened ∧ (s.chan i).sendQ.length < 16 := by
  unfold State.sendCheck at e
  split at e
  · cases e
  split at e
  · cases e
  dsimp only at e
  split_ifs at e with h1 h2 h3 h4
  cases e
  exact ⟨not_not.mp h1, Nat.lt_of_not_le h3⟩

/-! ## Commands -/

namespace TableLaw
variable {W : Prop} {P : State → Prop} {s : State} {i : ChanId} {l : LinkId} (law : TableLaw W P)
include law

/-! ### Host requests -/

theorem doChListen (p : Slot) (body : List Byte) (hd : ReqHeader) (st : Staging) (h : P s) :
    P (State.doChListen p body hd st s).1 := by
  unfold State.doChListen
  dsimp only
  split
  · exact h
  rename_i hb
  split
  · exact h
  · exact h
  · rename_i hr
    exact law.listening h (free_of_resolve hr) (window_of_not_bad (by simp [TakeBody.badListen] at hb; exact hb.1))

theorem doChOpen (p : Slot) (body : List Byte) (hd : ReqHeader) (st : Staging) (h : P s) : P (State.doChOpen p body hd st s).1 := by
  unfold State.doChOpen
  dsimp only
  split
  · exact h
  rename_i hb
  split
  · exact h
  · exact h
  · rename_i hr
    simp only [TakeBody.badOpen, Bool.or_eq_true, decide_eq_true_eq, not_or, not_lt, Bool.not_eq_true] at hb
    split
    · exact h
    rename_i hu
    split
    · exact h
    · exact law.openRecord h (free_of_resolve hr) (not_not.mp hu) (window_of_not_bad hb.1) hb.2

theorem doChClose (p : Slot) (body : List Byte) (hd : ReqHeader) (st : Staging) (h : P s) : P (State.doChClose p body hd st s).1 := by
  unfold State.doChClose
  split
  · exact h
  split
  · exact h
  · rename_i ho
    exact law.closeRecord h (not_not.mp ho)

theorem doChRelease (p : Slot) (body : List Byte) (hd : ReqHeader) (st : Staging) (h : P s) :
    P (State.doChRelease p body hd st s).1 := by
  unfold State.doChRelease
  split
  · exact h
  dsimp only
  split
  · exact h
  · exact law.giveUp h

theorem doSend (p : Slot) (body : List Byte) (hd : ReqHeader) (st : Staging) (h : P s) : P (State.doSend p body hd st s).1 := by
  unfold State.doSend
  split
  · exact law.freeStaged _ _ h
  · rename_i hc
    obtain ⟨ho, hl⟩ := room_of_sendCheck hc
    exact law.setChan h rfl rfl rfl fun _ ok => Chan.queued_ok ok ho hl _

theorem doRecv (p : Slot) (body : List Byte) (hd : ReqHeader) (st : Staging) (h : P s) : P (State.doRecv p body hd st s).1 := by
  unfold State.doRecv
  split
  · exact h
  dsimp only
  split
  · exact h
  split
  · exact h
  · rename_i hq
    exact law.grant (law.setChan h rfl rfl rfl fun _ ok => Chan.popped_ok ok hq)

theorem doLinkStart (p : Slot) (body : List Byte) (hd : ReqHeader) (st : Staging) (h : P s) :
    P (State.doLinkStart p body hd st s).1 := by
  have taken (l : LinkId) (hs : (s.link l).state ≠ .up) : P (s.startLink p l (startParams body)) := by
    refine law.setLine _ (law.offLine (.inl hs) (.inr ?_) h)
    unfold Link.started
    dsimp only
    split <;> rfl
  unfold State.doLinkStart
  split
  · exact h
  split
  · exact h
  rename_i l hl
  dsimp only
  split <;> rename_i hs
  · exact h
  · exact h
  · exact h
  · exact h
  · exact taken l (by simp [hs])
  · split
    · exact taken l (by simp [hs])
    · exact h

theorem stopLink (h : P s) : P (s.stopLink l) := by
  unfold State.stopLink
  split <;> rename_i hs
  · exact law.enterDown _ (.inl (by simp [hs])) h
  · exact law.enterDown _ (.inl (by simp [hs])) h
  · exact law.enterDown _ (.inl (by simp [hs])) (law.setLink h rfl rfl)
  · have torn := law.teardown (l := l) .stopped h
    have off := teardown_offLine s l .stopped
    generalize s.teardown l .stopped = t at torn off
    exact law.offLine (.inr off) (.inr rfl) torn
  · exact h
  · exact h

theorem doLinkStop (p : Slot) (body : List Byte) (hd : ReqHeader) (st : Staging) (h : P s) :
    P (State.doLinkStop p body hd st s).1 := by
  unfold State.doLinkStop
  split
  · exact h
  dsimp only
  split
  · exact h
  split
  · exact h
  · exact law.stopLink h

theorem doLinkClaim (p : Slot) (body : List Byte) (hd : ReqHeader) (st : Staging) (h : P s) :
    P (State.doLinkClaim p body hd st s).1 := by
  unfold State.doLinkClaim
  split
  · exact h
  dsimp only
  split
  · exact h
  split
  · exact law.setLink h rfl rfl
  · split <;> exact h

/-- A query changes nothing. -/
theorem query (p : Slot) (row : Byte → Bool) (body : List Byte) {act : Action} (ha : ∀ hd st, (act hd st s).1 = s) (h : P s) :
    Yields (s.request p row body act) P :=
  law.request h fun hd st => by rw [ha]; exact h

theorem endSession (p : Slot) (h : P s) : P (s.endSession p) := by
  refine law.updPort _ _ (law.same (vacate_same ..) (law.same (vacate_same ..) ?_))
  refine List.foldlRecOn _ _ h fun s h i _ => ?_
  split
  · exact law.giveUp h
  · exact h

/-! ### Frames -/

theorem takeLinkOpen (sender : Byte) (window : Nat) (h : P s) : P (s.takeLinkOpen l sender window) := by
  unfold State.takeLinkOpen
  dsimp only
  split <;> rename_i hs
  · exact law.setLink (law.establish _ _ (by simp [hs]) h) rfl rfl
  · exact law.setLink (law.establish _ _ (by simp [hs]) h) rfl rfl
  · unfold State.openInUp
    split
    · exact law.setLink h (by unfold Link.touchIdle; split <;> rfl) (by unfold Link.touchIdle; split <;> rfl)
    · have torn := law.teardown (l := l) .peerRestart h
      have off := teardown_offLine s l .peerRestart
      generalize s.teardown l .peerRestart = t at torn off
      exact law.postLinkReason _ _ (law.offLine (.inr off) (.inl rfl) torn)
  all_goals exact h

theorem takeLinkAccept (echoed sender : Byte) (window : Nat) (h : P s) : P (s.takeLinkAccept l echoed sender window) := by
  unfold State.takeLinkAccept
  dsimp only
  split <;> rename_i hs
  · split
    · exact law.establish _ _ (by simp [hs]) h
    · exact h
  · exact law.same (touchIdle_same ..) h
  all_goals exact h

theorem takeLinkClose (h : P s) : P (s.takeLinkClose l) := by
  unfold State.takeLinkClose
  split <;> rename_i hs
  · have torn := law.teardown (l := l) .peerStopped h
    have off := teardown_offLine s l .peerStopped
    generalize s.teardown l .peerStopped = t at torn off
    exact law.enterDown _ (.inr off) (law.setLink torn rfl rfl)
  · exact law.completeStop _ (by simp [hs, Link.oweClosed]) (law.setLink h rfl rfl)
  all_goals exact law.setLink h rfl rfl

theorem takeLinkClosed (h : P s) : P (s.takeLinkClosed l) := by
  unfold State.takeLinkClosed
  split <;> rename_i hs
  · exact law.completeStop _ (by simp [hs]) h
  · exact law.same (touchIdle_same ..) h
  all_goals exact h

theorem stray (h : P s) : P (s.stray l) := law.same (count_same ..) h
theorem answer (a : Answer) (h : P s) : P (s.answer l a) := law.same (answer_same ..) h

theorem deliverData (dst src : ChanId) (payload : List Byte) (h : P s) : P (s.deliverData l dst src payload) := by
  unfold State.deliverData
  dsimp only
  split
  · rename_i hc
    replace hc : (s.chan dst).Flows := hc.2
    split
    · rename_i hb
      have placed : P ((s.setPool (s.pool.place (RxMsg.blocks ⟨dst, payload⟩))).setChan dst { s.chan dst with
          rxConsumed := (s.chan dst).rxConsumed + BitVec.ofNat 8 (RxMsg.blocks ⟨dst, payload⟩)
          rxHeld := (s.chan dst).rxHeld + RxMsg.blocks ⟨dst, payload⟩, recvQ := (s.chan dst).recvQ ++ [⟨dst, payload⟩] }) :=
        law.setChan (law.setPool _ h) rfl rfl rfl fun _ ok => Chan.placed_ok ok hc _ hb
      unfold State.place
      dsimp only
      split
      · exact law.postTo _ _ placed
      · exact placed
    · exact law.postTo _ _ (law.abortChan (law.same (count_same ..) h) hc.talks)
  · exact law.stray h

theorem deliverOpen (dst src : ChanId) {w : Nat} (hw : W → 1 ≤ w ∧ w ≤ 64) (h : P s) (up : (s.link l).state = .up) :
    P (s.deliverOpen l dst src w) := by
  have refused (r : Reason) : P ((s.refuseOpen l dst src r).stray l) := law.stray (law.answer _ h)
  unfold State.deliverOpen
  dsimp only
  split <;> rename_i hs
  · exact refused _
  · split
    · rename_i hl
      split
      · exact law.acceptOpen h hs (by rw [hl.1]; exact up) hw
      · exact law.answer _ (law.setChan h rfl rfl rfl fun _ ok => Chan.refused_ok ok hs)
    · exact refused _
  · split
    · exact law.crossOpen h hs hw
    · exact refused _
  all_goals exact refused _

theorem deliverAccept (dst src : ChanId) {w : Nat} (hw : W → 1 ≤ w ∧ w ≤ 64) (h : P s) : P (s.deliverAccept l dst src w) := by
  unfold State.deliverAccept
  dsimp only
  split
  · rename_i hc
    exact law.enterOpen h hc.2.1 (by simpa using hc.2.2) hw
  · exact law.stray h

theorem deliverRefuse (dst src : ChanId) (r : Reason) (h : P s) : P (s.deliverRefuse l dst src r) := by
  unfold State.deliverRefuse
  dsimp only
  split
  · rename_i hc
    exact law.endChan r h (.inl hc.2.1)
  split
  · exact law.freeAborted h
  · exact law.stray h

theorem deliverClose (dst src : ChanId) (abort : Bool) (h : P s) : P (s.deliverClose l dst src abort) := by
  refine law.answer _ ?_
  unfold State.closeEffect
  dsimp only
  split
  · split <;> rename_i hs
    · exact law.endChan _ h (.inl hs)
    · exact law.endChan _ h (.inr (.inl hs))
    · split
      · exact h
      · exact law.endChan _ h (.inr (.inr hs))
    · split
      · exact h
      · exact law.freeAborted h
    all_goals exact law.stray h
  · exact law.stray h

theorem deliverClosed (dst src : ChanId) (h : P s) : P (s.deliverClosed l dst src) := by
  unfold State.deliverClosed
  dsimp only
  split
  · split <;> rename_i hs
    · exact law.endChan _ h (.inr (.inr hs))
    · exact law.freeAborted h
    all_goals exact law.stray h
  · exact law.stray h

theorem deliverCredit (dst src : ChanId) (limit : Credit) (h : P s) : P (s.deliverCredit l dst src limit) := by
  unfold State.deliverCredit
  dsimp only
  split
  · rename_i hc
    split
    · rename_i hl
      exact law.setChan h rfl rfl rfl fun _ ok => Chan.limited_ok ok hc.2 hl
    · exact h
  · exact law.stray h

theorem takeHeldSequenced {deliver : ChanId → ChanId → Content → Option (State → State)} (h : P s)
    (hd : ∀ ns nr dst src c, .seq ns nr dst src c ∈ (s.line l).held → ∀ g, deliver dst src c = some g →
      ∀ u, P u → (u.link l).state = .up → P (g u)) : Yields (s.takeHeldSequenced l deliver) P := by
  refine law.takeHeld h fun f hf g hg u hu => ?_
  split at hg
  · obtain ⟨d, hd', rfl⟩ := Option.map_eq_some_iff.mp hg
    exact law.takeSequenced hu (hd _ _ _ _ _ hf _ hd')
  · cases hg

/-! ### Resets, transactions and timers -/

theorem resetPort (p : Slot) (h : P s) : P (s.resetPort p) := by
  have staged := law.freeStaged p (s.port p).txn.staging h
  unfold State.resetPort
  dsimp only
  generalize s.freeStaged p (s.port p).txn.staging = t at staged
  refine law.updPort _ _ (law.serve (law.same (freeRxMsgs_same ..) ?_))
  split
  · exact law.endSession p staged
  · exact staged

theorem enterFailed_torn (r : Reason) (h : P s) : P ((s.teardown l r).enterFailed l r) :=
  law.enterFailed r (.inr (teardown_offLine s l r)) (law.teardown r h)

theorem lineLost (h : P s) : P (s.lineLost l) := by
  unfold State.lineLost
  split <;> rename_i hs
  · exact law.enterFailed _ (.inl (by simp [hs])) h
  · exact law.enterFailed_torn _ h
  · exact law.completeStop _ (by simp [hs]) h
  all_goals exact h

theorem respExpired (h : P s) : P (s.respExpired l) := by
  unfold State.respExpired
  dsimp only
  split <;> rename_i hs
  · split
    · exact law.enterFailed _ (.inl (by simp [hs])) h
    · exact law.setLink h rfl rfl
  · split
    · exact law.completeStop _ (by simp [hs]) h
    · exact law.setLink h rfl rfl
  · split
    · exact law.enterFailed_torn _ h
    · exact law.setLink h rfl rfl
  all_goals exact h

theorem removeResponse (p : Slot) (r : Response) (h : P s) : P (s.removeResponse p r) := by
  unfold State.removeResponse
  dsimp only
  split
  · exact law.serve (law.same (freeRxMsgs_same ..) (law.updPort _ _ h))
  · exact law.updPort _ _ h

/-! ### The rows of the table -/

theorem execAttach (p : Slot) (body : List Byte) (h : P s) : Yields (Machine.execAttach p body s) P := by
  refine law.request h fun hd st => ?_
  unfold State.doAttach
  split
  · exact h
  · exact law.setPort p _ h

theorem execLinkClaim (p : Slot) (body : List Byte) (h : P s) : Yields (Machine.execLinkClaim p body s) P :=
  law.request h fun hd st => law.doLinkClaim p body hd st h

theorem execChListen (p : Slot) (body : List Byte) (h : P s) : Yields (Machine.execChListen p body s) P :=
  law.request h fun hd st => law.doChListen p body hd st h

theorem execPoolQuery (p : Slot) (body : List Byte) (h : P s) : Yields (Machine.execPoolQuery p body s) P :=
  law.query p _ body (fun _ _ => rfl) h

theorem execUnknownCommand (p : Slot) (body : List Byte) (h : P s) : Yields (Machine.execUnknownCommand p body s) P :=
  law.query p _ body (fun _ _ => rfl) h

theorem execLinkQuery (p : Slot) (body : List Byte) (h : P s) : Yields (Machine.execLinkQuery p body s) P := by
  refine law.query p _ body (fun hd st => ?_) h
  unfold State.doLinkQuery
  split <;> rfl

theorem execChQuery (p : Slot) (body : List Byte) (h : P s) : Yields (Machine.execChQuery p body s) P := by
  refine law.query p _ body (fun hd st => ?_) h
  unfold State.doChQuery
  split <;> rfl

theorem execTransactionCode (p : Slot) (code : Byte) (h : P s) : Yields (Machine.execTransactionCode p code s) P := by
  refine law.midTransaction h fun x u e => ?_
  split at e <;> cases e
  exact law.setPort _ _ h

theorem execWriteRequestHeader (p : Slot) (tag code : Byte) (len : Byte × Byte) (h : P s) :
    Yields (Machine.execWriteRequestHeader p tag code len s) P := by
  have claim (n : Nat) : P (s.stagingClaim p n).1 := by
    unfold State.stagingClaim
    dsimp only
    split
    · exact h
    · split
      · exact h
      · exact law.setPool _ h
  unfold Machine.execWriteRequestHeader
  dsimp only
  refine law.midTransaction h fun x u e => ?_
  split at e
  · split at e <;> cases e
    · exact law.setPort _ _ h
    · refine law.setPort _ _ ?_
      split
      · exact claim _
      · exact h
  · cases e

theorem execStatusTransaction (p : Slot) (n : Nat) (h : P s) : Yields (Machine.execStatusTransaction p n s) P := by
  refine law.endTransaction h fun x u e => ?_
  split at e <;> cases e
  exact law.rise _ _ h

theorem execReadResponse (p : Slot) (n : Nat) (h : P s) : Yields (Machine.execReadResponse p n s) P := by
  refine law.yields_settled (law.endTransaction h fun x u e => ?_)
  split at e <;> cases e
  · exact law.rise _ _ h
  · refine law.rise _ _ ?_
    split
    · exact law.removeResponse _ _ h
    · exact h

theorem execReadEvent (p : Slot) (n : Nat) (h : P s) : Yields (Machine.execReadEvent p n s) P := by
  refine law.endTransaction h fun x u e => ?_
  split at e <;> cases e
  · exact law.rise _ _ h
  · refine law.rise _ _ ?_
    split
    · exact law.updPort _ _ h
    · exact h

theorem execIgnoredTransactionEnd (p : Slot) (n : Nat) (h : P s) : Yields (Machine.execIgnoredTransactionEnd p n s) P := by
  refine law.endTransaction h fun x u e => ?_
  split at e <;> cases e
  all_goals exact law.rise _ _ h

theorem execChipSelectFalls (p : Slot) (h : P s) : Yields (Machine.execChipSelectFalls p s) P := by
  unfold Machine.execChipSelectFalls
  dsimp only
  split
  · exact yields_refused _
  split
  · exact yields_next (law.setPort _ _ h)
  split
  all_goals exact yields_next (law.setPort _ _ h)

theorem execHostPortReset (p : Slot) (h : P s) : Yields (Machine.execHostPortReset p s) P := by
  unfold Machine.execHostPortReset
  split
  · exact yields_next (law.updPort _ _ h)
  · exact yields_next (law.settle (law.resetPort p h))

theorem execHostPortResetRelease (p : Slot) (h : P s) : Yields (Machine.execHostPortResetRelease p s) P := by
  unfold Machine.execHostPortResetRelease
  split
  · exact yields_refused _
  split
  all_goals exact yields_next (law.updPort _ _ h)

/-- Device reset clears the table (R169). -/
theorem execDeviceReset : Yields (Machine.execDeviceReset s) P :=
  yields_next (law.cleared (fun i => by simp [State.chan, State.reset]) fun l => by simp [State.link, State.reset])

theorem execDeviceResetRelease (h : P s) : Yields (Machine.execDeviceResetRelease s) P := by
  unfold Machine.execDeviceResetRelease
  split
  · exact yields_next (law.same (s := s) (.of_parts rfl rfl) h)
  · exact yields_refused _

theorem execLineReadyDeasserted (h : P s) : Yields (Machine.execLineReadyDeasserted l s) P := by
  unfold Machine.execLineReadyDeasserted
  dsimp only
  split
  · exact yields_next (law.settle (law.lineLost (law.setLine _ h)))
  · exact yields_next (law.setLine _ h)

theorem execTransmitComplete (h : P s) : Yields (Machine.execTransmitComplete l s) P := by
  unfold Machine.execTransmitComplete
  split
  · split
    · exact yields_refused _
    · exact yields_next (law.settle (law.same (count_same ..) (law.setLine _ h)))
  · exact yields_refused _

theorem execTruncationComplete (h : P s) : Yields (Machine.execTruncationComplete l s) P := by
  unfold Machine.execTruncationComplete
  split
  · split
    · exact yields_next (law.settle (law.setLine _ h))
    · exact yields_refused _
  · exact yields_refused _

theorem execTAckExpiry (h : P s) : Yields (Machine.execTAckExpiry l s) P := by
  unfold Machine.execTAckExpiry
  dsimp only
  split
  · exact yields_next (law.settle (law.setLink h rfl rfl))
  · exact yields_next h

theorem execTRespExpiry (h : P s) : Yields (Machine.execTRespExpiry l s) P := by
  unfold Machine.execTRespExpiry
  split
  · exact yields_next (law.settle (law.respExpired h))
  · exact yields_next h

theorem execTIdleExpiry (h : P s) : Yields (Machine.execTIdleExpiry l s) P := by
  unfold Machine.execTIdleExpiry
  dsimp only
  split
  · exact yields_next (law.settle (law.setLink h rfl rfl))
  · exact yields_next h

theorem execLinkOpen (h : P s) : Yields (Machine.execLinkOpen l s) P := by
  refine law.takeHeld h fun f _ g hg u hu => ?_
  split at hg <;> cases hg
  exact law.takeLinkOpen _ _ hu

theorem execLinkAccept (h : P s) : Yields (Machine.execLinkAccept l s) P := by
  refine law.takeHeld h fun f _ g hg u hu => ?_
  split at hg <;> cases hg
  exact law.takeLinkAccept _ _ _ hu

theorem execLinkClose (h : P s) : Yields (Machine.execLinkClose l s) P := by
  refine law.takeHeld h fun f _ g hg u hu => ?_
  split at hg <;> cases hg
  exact law.takeLinkClose hu

theorem execLinkClosed (h : P s) : Yields (Machine.execLinkClosed l s) P := by
  refine law.takeHeld h fun f _ g hg u hu => ?_
  split at hg <;> cases hg
  exact law.takeLinkClosed hu

theorem execStatus (h : P s) : Yields (Machine.execStatus l s) P := by
  refine law.takeHeld h fun f _ g hg u hu => ?_
  split at hg <;> cases hg
  exact law.withNr hu fun v hv _ => law.same (takeStatusFlags_same ..) hv

theorem execResend (h : P s) : Yields (Machine.execResend l s) P := by
  refine law.takeHeld h fun f _ g hg u hu => ?_
  split at hg <;> cases hg
  exact law.withNr hu fun v hv _ => law.same (takeResend_same ..) hv

theorem execData (h : P s) : Yields (Machine.execData l s) P := by
  refine law.takeHeldSequenced h fun _ _ dst src c _ g hg u hu _ => ?_
  split at hg <;> cases hg
  exact law.deliverData dst src _ hu

theorem execChanOpen (hw : W → ∀ f ∈ (s.line l).held, f.wellFormed = true) (h : P s) : Yields (Machine.execChanOpen l s) P := by
  refine law.takeHeldSequenced h fun _ _ dst src c hc g hg u hu up => ?_
  split at hg <;> cases hg
  exact law.deliverOpen dst src (fun k => of_decide_eq_true (hw k _ hc)) hu up

theorem execChanAccept (hw : W → ∀ f ∈ (s.line l).held, f.wellFormed = true) (h : P s) : Yields (Machine.execChanAccept l s) P := by
  refine law.takeHeldSequenced h fun _ _ dst src c hc g hg u hu _ => ?_
  split at hg <;> cases hg
  exact law.deliverAccept dst src (fun k => of_decide_eq_true (hw k _ hc)) hu

theorem execChanRefuse (h : P s) : Yields (Machine.execChanRefuse l s) P := by
  refine law.takeHeldSequenced h fun _ _ dst src c _ g hg u hu _ => ?_
  split at hg <;> cases hg
  exact law.deliverRefuse dst src _ hu

theorem execChanClose (h : P s) : Yields (Machine.execChanClose l s) P := by
  refine law.takeHeldSequenced h fun _ _ dst src c _ g hg u hu _ => ?_
  split at hg <;> cases hg
  exact law.deliverClose dst src _ hu

theorem execChanClosed (h : P s) : Yields (Machine.execChanClosed l s) P := by
  refine law.takeHeldSequenced h fun _ _ dst src c _ g hg u hu _ => ?_
  split at hg <;> cases hg
  exact law.deliverClosed dst src hu

theorem execChanCredit (h : P s) : Yields (Machine.execChanCredit l s) P := by
  refine law.takeHeldSequenced h fun _ _ dst src c _ g hg u hu _ => ?_
  split at hg <;> cases hg
  exact law.deliverCredit dst src _ hu

/-- Every command keeps every law of the table, where the held frames are as far in range as the law needs them (`W`). -/
theorem exec (hw : W → ∀ l, ∀ f ∈ (s.line l).held, f.wellFormed = true) (h : P s) (c : Instr) : Yields (Machine.exec c s) P := by
  cases c with
  | attach p body => exact law.execAttach p body h
  | detach p body => exact law.yields_settled (law.request h fun _ _ => law.endSession p h)
  | linkStart p body => exact law.yields_settled (law.request h fun hd st => law.doLinkStart p body hd st h)
  | linkStop p body => exact law.yields_settled (law.request h fun hd st => law.doLinkStop p body hd st h)
  | linkClaim p body => exact law.execLinkClaim p body h
  | linkQuery p body => exact law.execLinkQuery p body h
  | chListen p body => exact law.execChListen p body h
  | chOpen p body => exact law.yields_settled (law.request h fun hd st => law.doChOpen p body hd st h)
  | chClose p body => exact law.yields_settled (law.request h fun hd st => law.doChClose p body hd st h)
  | chRelease p body => exact law.yields_settled (law.request h fun hd st => law.doChRelease p body hd st h)
  | chQuery p body => exact law.execChQuery p body h
  | send p body => exact law.yields_settled (law.request h fun hd st => law.doSend p body hd st h)
  | recv p body => exact law.yields_settled (law.request h fun hd st => law.doRecv p body hd st h)
  | poolQuery p body => exact law.execPoolQuery p body h
  | unknownCommand p body => exact law.execUnknownCommand p body h
  | transactionCode p code => exact law.execTransactionCode p code h
  | statusTransaction p n => exact law.execStatusTransaction p n h
  | writeRequestHeader p tag code len => exact law.execWriteRequestHeader p tag code len h
  | readResponse p n => exact law.execReadResponse p n h
  | readEvent p n => exact law.execReadEvent p n h
  | hostPortReset p => exact law.execHostPortReset p h
  | hostPortResetRelease p => exact law.execHostPortResetRelease p h
  | deviceReset => exact law.execDeviceReset
  | deviceResetRelease => exact law.execDeviceResetRelease h
  | lineReadyDeasserted l => exact law.execLineReadyDeasserted h
  | frameBodyStart l b => exact yields_next (law.same (receiveLevels_same ..) h)
  | frameEnd l => exact yields_next (law.same (receiveLevels_same ..) h)
  | transmitComplete l => exact law.execTransmitComplete h
  | truncationComplete l => exact law.execTruncationComplete h
  | linkOpen l => exact law.execLinkOpen h
  | linkAccept l => exact law.execLinkAccept h
  | linkClose l => exact law.execLinkClose h
  | linkClosed l => exact law.execLinkClosed h
  | status l => exact law.execStatus h
  | resend l => exact law.execResend h
  | data l => exact law.execData h
  | chanOpen l => exact law.execChanOpen (fun k => hw k l) h
  | chanAccept l => exact law.execChanAccept (fun k => hw k l) h
  | chanRefuse l => exact law.execChanRefuse h
  | chanClose l => exact law.execChanClose h
  | chanClosed l => exact law.execChanClosed h
  | chanCredit l => exact law.execChanCredit h
  | tAckExpiry l => exact law.execTAckExpiry h
  | tRespExpiry l => exact law.execTRespExpiry h
  | tIdleExpiry l => exact law.execTIdleExpiry h
  | chipSelectFalls p => exact law.execChipSelectFalls p h
  | ignoredTransactionEnd p n => exact law.execIgnoredTransactionEnd p n h
  | huntDelimiter l => exact yields_next (law.same (receiveLevels_same ..) h)
  | bodyCharacter l levels => exact yields_next (law.same (receiveLevels_same ..) h)
  | lineReadyAsserted l => exact yields_next (law.setLine _ h)

/-- Every step keeps every law of the table. -/
theorem step (hw : W → ∀ l, ∀ f ∈ (s.line l).held, f.wellFormed = true) (h : P s) : Yields (Machine.step s) P := by
  unfold Machine.step
  split
  · rename_i rest _
    exact law.exec (s := { s with pending := rest }) hw (law.same (s := s) (.of_parts rfl rfl) h) _
  · exact yields_next (law.same (tick_same s) h)

end TableLaw

/-! ## The two laws -/

/-- Settles O7: the exactness of the control-ready lists is a law of the table. -/
theorem stepKeepsReadyLists : Obligations.StepKeepsReadyLists :=
  fun _ t h => readyOk_law.step (fun k => k.elim) h t

/-- Settles O8: the law of the records is a law of the table; the held frames give the windows of CHAN-OPEN and CHAN-ACCEPT. -/
theorem stepKeepsRecords : Obligations.StepKeepsRecords :=
  fun _ t lines h => (recordsOk_law lines).step (fun k l => (k l).held) h t

end Sys2Proof.Machine
end

section
/-! SUPPORT. What the taking of a new sequenced frame makes of the state (R53, R81, R83, R85). -/

namespace Sys2Proof.Machine

/-- The content of the frame of an entry (R51). -/
def EntryBody.content : EntryBody → Content
  | .data m => .data m.payload
  | .ctl c => .ctl c

/-- An entry joins the retransmission list with the timers of R53 and R54. -/
theorem appended_newEntry (k : Link) (dst src : ChanId) (b : EntryBody) : k.appended (k.newEntry dst src b) = k.sent dst src b := by
  unfold Link.appended
  dsimp only
  cases h : k.rtx with
  | nil => simp [Link.sent, Link.newEntry, Link.stamp, Link.startResp, Link.par, h]
  | cons e q => simp [Link.sent, Link.newEntry, Link.stamp, h]

/-- A new sequenced frame is numbered V(s), carries V(r), and is handed to the line port (R53, R54). -/
theorem takeNew_eq (s : State) (l : LinkId) (dst src : ChanId) (b : EntryBody) :
    s.takeNew l dst src b = (s.setLink l ((s.link l).sent dst src b)).sending l
      (.seq (s.link l).vs (s.link l).vr dst src b.content) := by
  cases b <;> simp only [State.takeNew, appended_newEntry] <;> rfl

/-- The fields that a taking sets after the frame are read through the line port's buffer. -/
theorem setChan_sending (s : State) (l : LinkId) (f : Frame) (i : ChanId) (c : Chan) :
    (s.sending l f).setChan i c = (s.setChan i c).sending l f := rfl

theorem setLink_sending (s : State) (l m : LinkId) (f : Frame) (k : Link) :
    (s.sending l f).setLink m k = (s.setLink m k).sending l f := rfl

@[simp] theorem link_sending (s : State) (l m : LinkId) (f : Frame) : (s.sending l f).link m = s.link m := rfl
@[simp] theorem chan_sending (s : State) (l : LinkId) (f : Frame) (i : ChanId) : (s.sending l f).chan i = s.chan i := rfl

/-- The answer at the head of the list is taken (R81). -/
theorem takeAnswer_eq {s : State} {l : LinkId} {a : Answer} {rest : List Answer} {x : Ctl} (h : (s.link l).answers = a :: rest)
    (hx : a.refuse = none ∧ x = .closed ∨ ∃ r, a.refuse = some r ∧ x = .refuse r) :
    s.take l (.answer a) = (s.setLink l { (s.link l).sent a.peerCh a.ourCh (.ctl x) with answers := rest }).sending l
      (.seq (s.link l).vs (s.link l).vr a.peerCh a.ourCh (.ctl x)) := by
  rcases hx with ⟨hr, rfl⟩ | ⟨r, hr, rfl⟩
  all_goals
    simp only [State.take, State.takeAnswer, hr, takeNew_eq, h, link_setLink, setLink_setLink, List.tail_cons]
    rfl

/-- The record at the head of the control-ready list is served (R83, R23). -/
theorem takeReady_eq {s : State} {l : LinkId} {i r : ChanId} {rest : List ChanId} {m : Member} {x : Ctl} {o : Owed}
    (h : (s.link l).ready = i :: rest) (hr : (s.chan i).remote = some r) (hx : (s.chan i).snapshot m = x)
    (ho : (s.chan i).owed.remove m = o) :
    s.take l (.ready i m) = (((s.setLink l { (s.link l).sent r i (.ctl x) with ready := rest ++ if o = {} then [] else [i] }).setChan i
        { s.chan i with owed := o, closeSent := (s.chan i).closeSent || decide (m = .close) }).sending l
        (.seq (s.link l).vs (s.link l).vr r i (.ctl x))) := by
  have ready : ((s.link l).sent r i (.ctl x)).ready = i :: rest := h
  simp only [State.take, State.takeReady, hx, ho, hr, Option.getD_some, takeNew_eq, setChan_sending, setLink_sending, link_sending,
    link_setChan, link_setLink, setLink_setChan, setLink_setLink, ready, List.tail_cons, owed_isEmpty_iff]
  rfl

/-- The head message of a record is taken (R85). -/
theorem takeData_eq {s : State} {l : LinkId} {i r : ChanId} {m : TxMsg} {rest : List TxMsg} (h : (s.chan i).sendQ = m :: rest)
    (hr : (s.chan i).remote = some r) (hl : (s.chan i).link = l) :
    s.take l (.data i m) = (((s.setLink l { (s.link l).sent r i (.data m) with
          rrUrgent := if (s.chan i).cls = .urgent then i else (s.link l).rrUrgent
          rrNormal := if (s.chan i).cls = .normal then i else (s.link l).rrNormal
          ready := if ((s.chan i).state = .closing ∧ rest = []) ∧ (s.chan i).owed = {} then (s.link l).ready ++ [i] else (s.link l).ready }).setChan i
        { s.chan i with
          sendQ := rest, txUsed := (s.chan i).txUsed + BitVec.ofNat 8 ((m.payload.length + 63) / 64)
          owed := if (s.chan i).state = .closing ∧ rest = [] then (s.chan i).owed.drained else (s.chan i).owed }).sending l
        (.seq (s.link l).vs (s.link l).vr r i (.data m.payload))) := by
  have base : ((s.takeNew l r i (.data m)).setLink l (((s.takeNew l r i (.data m)).link l).served (s.chan i).cls i))
      = (s.setLink l { (s.link l).sent r i (.data m) with
          rrUrgent := if (s.chan i).cls = .urgent then i else (s.link l).rrUrgent
          rrNormal := if (s.chan i).cls = .normal then i else (s.link l).rrNormal }).sending l
        (.seq (s.link l).vs (s.link l).vr r i (.data m.payload)) := by
    simp only [takeNew_eq, setLink_sending, link_sending, link_setLink, setLink_setLink]
    cases (s.chan i).cls <;> rfl
  have blocks : m.blocks = (m.payload.length + 63) / 64 := rfl
  simp only [State.take, State.takeData, hr, Option.getD_some, base, h, List.tail_cons, blocks, setChan_sending]
  by_cases hd : (s.chan i).state = .closing ∧ rest = []
  · have owes : (s.chan i).owed.drained ≠ {} := by simp [Owed.drained]
    have drain : ({ (s.chan i).owed with credit := false, close := some false } : Owed) = (s.chan i).owed.drained := rfl
    simp only [hd, and_self, true_and, if_true, setOwed_eq, chan_sending, link_sending, setChan_sending, setLink_sending, chan_setChan,
      link_setChan, hl, link_setLink,      setLink_setChan, setLink_setLink, setChan_setChan, drain, readyAfter_eq, owes, ne_eq, not_false_eq_true, and_true, and_false,
      if_false]
    rfl
  · simp only [hd, false_and, if_false]
    rfl

/-- Settles O55. -/
theorem takingsWithAnEntry : Obligations.TakingsWithAnEntry := by
  intro s l
  refine ⟨fun a rest x h hx => takeAnswer_eq h hx, fun i r rest m x o h hr hm => ?_, fun i r m rest h hr hl => ?_⟩
  · refine takeReady_eq h hr ?_ ?_
    · rcases hm with ⟨rfl, rfl, -⟩ | ⟨rfl, rfl, -⟩ | ⟨rfl, rfl, -⟩ | ⟨rfl, ⟨a, ha, rfl⟩, -⟩
      · rfl
      · rfl
      · rfl
      · simp only [Chan.snapshot]; rw [show (s.chan i).owed.close = some a from ha]; rfl
    · rcases hm with ⟨rfl, -, rfl⟩ | ⟨rfl, -, rfl⟩ | ⟨rfl, -, rfl⟩ | ⟨rfl, -, rfl⟩ <;> rfl
  · exact takeData_eq h hr hl

end Sys2Proof.Machine
end

section
/-! SUPPORT. The sequenced frames in sequence: how the row of a frame runs (R55, R59, R61), and what CHAN-OPEN, CHAN-ACCEPT, CHAN-REFUSE,
CHAN-CREDIT, CHAN-CLOSE and CHAN-CLOSED do at the addressed record (sections 1.4, 1.5, 5.7, 7.5). -/

namespace Sys2Proof.Machine

/-! ## The acceptance of a sequenced frame -/

theorem touchIdle_eq (k : Link) : k.touchIdle = k.idled := by
  unfold Link.touchIdle Link.startIdle Link.idled
  cases h : k.tIdle with
  | none =>
    simp only [Option.isSome_none, Bool.false_eq_true, false_and, if_false]
    rw [← h]
  | some n => by_cases h0 : k.par.tIdle = 0 <;> simp [h0]

theorem accepted_eq (k : Link) : k.accepted = { k with
    vr := k.vr + 1, resendSent := false, owedSup := { k.owedSup with resend := false },
    ackPending := true, tAck := if k.ackPending then k.tAck else some k.par.tAck } := by
  unfold Link.accepted
  split <;> rfl

/-- An acknowledgement leaves V(r) (R57). -/
theorem acknowledge_vr (s : State) (l m : LinkId) (nr : Seq) : ((s.acknowledge l nr).link m).vr = (s.link m).vr := by
  have posts (ms : List TxMsg) (u : State) :
      (ms.foldl (fun s m => if m.notify then s.postTo m.slot (msgSentEvent l m) else s) u).link m = u.link m := by
    refine List.foldlRecOn (motive := fun v : State => v.link m = u.link m) _ _ rfl fun v hv x _ => ?_
    split <;> exact hv
  have acked : ((s.link l).acked nr).vr = (s.link l).vr := by unfold Link.acked; dsimp only; split_ifs <;> rfl
  unfold State.acknowledge
  dsimp only
  split
  · rfl
  · obtain ⟨_, e, -⟩ := (serve_served _).links m
    rw [e, posts, link_setLink_ite]
    split
    · rename_i hm; rw [hm]; exact acked
    · rfl

/-- The row of a sequenced frame in sequence hands its content to the channel table (R55, R59, R61). -/
theorem takeHeldSequenced_run {s : State} {l : LinkId} {nr : Seq} {dst src : ChanId} {c : Content}
    {deliver : ChanId → ChanId → Content → Option (State → State)} {g : State → State} (h : s.Accepts l nr dst src c)
    (hg : deliver dst src c = some g) : s.takeHeldSequenced l deliver = .next (g (s.afterAccept l nr)).settle := by
  obtain ⟨rest, hf⟩ : ∃ rest, (s.line l).held = .seq (s.link l).vr nr dst src c :: rest := List.head?_eq_some_iff.mp h.frame
  have heard : s.setLine l { s.line l with held := rest } = s.heard l := by rw [State.heard, hf]; rfl
  have link : (s.heard l).link l = s.link l := rfl
  have valid : (s.link l).idled.nrValid nr = true := decide_eq_true h.valid
  have vr : (s.link l).vr = ((s.afterNr l nr).link l).vr := by rw [State.afterNr, acknowledge_vr]; simp [Link.idled]
  have taken : (s.heard l).takeSequenced l (s.link l).vr nr g = g (s.afterAccept l nr) := by
    simp only [State.takeSequenced, State.withNr, link, h.up, ne_eq, not_true_eq_false, if_false, touchIdle_eq, link_setLink, valid,
      if_true]
    rw [← State.afterNr, if_pos vr, accepted_eq]
    rfl
  simp only [State.takeHeldSequenced, State.takeHeld, hf, hg, Option.map_some, heard, taken]

section Rows
variable {s : State} {l : LinkId} {nr : Seq} {dst src : ChanId}

theorem exec_chanOpen {w : Nat} (h : s.Accepts l nr dst src (.ctl (.opn w))) :
    exec (.chanOpen l) s = .next ((s.afterAccept l nr).deliverOpen l dst src w).settle :=
  takeHeldSequenced_run (g := fun t => t.deliverOpen l dst src w) h rfl

theorem exec_chanAccept {w : Nat} (h : s.Accepts l nr dst src (.ctl (.accept w))) :
    exec (.chanAccept l) s = .next ((s.afterAccept l nr).deliverAccept l dst src w).settle :=
  takeHeldSequenced_run (g := fun t => t.deliverAccept l dst src w) h rfl

theorem exec_chanRefuse {r : Reason} (h : s.Accepts l nr dst src (.ctl (.refuse r))) :
    exec (.chanRefuse l) s = .next ((s.afterAccept l nr).deliverRefuse l dst src r).settle :=
  takeHeldSequenced_run (g := fun t => t.deliverRefuse l dst src r) h rfl

theorem exec_chanClose {abort : Bool} (h : s.Accepts l nr dst src (.ctl (.close abort))) :
    exec (.chanClose l) s = .next ((s.afterAccept l nr).deliverClose l dst src abort).settle :=
  takeHeldSequenced_run (g := fun t => t.deliverClose l dst src abort) h rfl

theorem exec_chanClosed (h : s.Accepts l nr dst src (.ctl .closed)) :
    exec (.chanClosed l) s = .next ((s.afterAccept l nr).deliverClosed l dst src).settle :=
  takeHeldSequenced_run (g := fun t => t.deliverClosed l dst src) h rfl

theorem exec_chanCredit {limit : Credit} (h : s.Accepts l nr dst src (.ctl (.credit limit))) :
    exec (.chanCredit l) s = .next ((s.afterAccept l nr).deliverCredit l dst src limit).settle :=
  takeHeldSequenced_run (g := fun t => t.deliverCredit l dst src limit) h rfl

end Rows

/-! ## The operations in the terms of the statements -/

section Deliver
variable {t : State} {l : LinkId} {dst src : ChanId}

theorem fits_iff : (t.chan dst).fits l src = true ↔ t.Matches l dst src := by
  simp [Chan.fits, State.Matches, and_assoc]

theorem stray_eq (t : State) (l : LinkId) : t.stray l = t.strayed l := rfl

theorem pushAnswer_eq (a : Answer) (q : List Answer) : pushAnswer a q = answersWith a q := by
  simp [pushAnswer, answersWith]

theorem freeAborted_eq (t : State) (i : ChanId) : t.freeAborted i = t.freedAborted i := by
  unfold State.freeAborted State.freedAborted State.freeChan
  simp only [setOwed_eq, readyAfter_eq]
  by_cases h : (t.chan i).owed = {}
  · simp [h, State.chanEvent, setLink_setChan]
  · simp [h, State.chanEvent, setLink_setChan]

/-- A record enters OPEN (R11). -/
theorem enterOpen_eq (t : State) (i : ChanId) (w : Nat) : t.enterOpen i w = (t.setChan i ((t.chan i).opens w)).postTo (t.chan i).owner
    { kind := .chOpened, link := (t.chan i).link, channel := i, reason := none, arg := 0 } := by
  simp only [State.enterOpen, State.chanEvent, chan_setChan]
  rfl

/-- A CHAN-OPEN refused and counted as stray (R12, R10). -/
theorem refused_eq (t : State) (l : LinkId) (dst src : ChanId) (r : Reason) : (t.refuseOpen l dst src r).stray l = t.setLink l
    { t.link l with
      answers := answersWith { refuse := some r, peerCh := src, ourCh := dst } (t.link l).answers
      counters := { (t.link l).counters with stray := (t.link l).counters.stray + 1 } } := by
  simp only [State.refuseOpen, State.answer, State.stray, State.count, pushAnswer_eq, link_setLink, setLink_setLink]
  rfl

/-! ## CHAN-ACCEPT, CHAN-REFUSE and CHAN-CREDIT -/

/-- An OPENING record whose OPEN has been sent. -/
def Chan.awaits (c : Chan) : Prop := c.state = .opening ∧ c.owed.opn = false

theorem deliverAccept_awaited (w : Nat) (hm : t.Matches l dst src) (ha : (t.chan dst).awaits) :
    t.deliverAccept l dst src w = t.enterOpen dst w := by
  simp [State.deliverAccept, fits_iff.mpr hm, ha.1, ha.2]

theorem deliverAccept_stray (w : Nat) (h : ¬ (t.Matches l dst src ∧ (t.chan dst).awaits)) :
    t.deliverAccept l dst src w = t.strayed l :=
  if_neg fun e => h ⟨fits_iff.mp e.1, e.2.1, by simpa using e.2.2⟩

theorem deliverRefuse_awaited (r : Reason) (hm : t.Matches l dst src) (ha : (t.chan dst).awaits) :
    t.deliverRefuse l dst src r = t.endChan dst r := by
  simp [State.deliverRefuse, fits_iff.mpr hm, ha.1, ha.2]

theorem deliverRefuse_aborting (r : Reason) (hm : t.Matches l dst src) (ha : (t.chan dst).state = .aborting) :
    t.deliverRefuse l dst src r = t.freedAborted dst := by
  simp [State.deliverRefuse, fits_iff.mpr hm, ha, freeAborted_eq]

theorem deliverRefuse_stray (r : Reason)
    (h : ¬ (t.Matches l dst src ∧ ((t.chan dst).awaits ∨ (t.chan dst).state = .aborting))) :
    t.deliverRefuse l dst src r = t.strayed l :=
  (if_neg fun e => h ⟨fits_iff.mp e.1, .inl ⟨e.2.1, by simpa using e.2.2⟩⟩).trans
    (if_neg fun e => h ⟨fits_iff.mp e.1, .inr e.2⟩)

theorem takesLimit_iff {c : Chan} {limit : Credit} : c.takesLimit limit = true ↔
    1 ≤ (limit - c.txLimit).toNat ∧ (limit - c.txLimit).toNat ≤ 128 ∧ (limit - c.txUsed).toNat ≤ c.peerWindow := decide_eq_true_iff

theorem deliverCredit_flows (limit : Credit) (hm : t.Matches l dst src) (hf : (t.chan dst).Flows) :
    t.deliverCredit l dst src limit =
      if (t.chan dst).takesLimit limit then t.setChan dst { t.chan dst with txLimit := limit } else t :=
  if_pos ⟨fits_iff.mpr hm, hf⟩

theorem deliverCredit_stray (limit : Credit) (h : ¬ (t.Matches l dst src ∧ (t.chan dst).Flows)) :
    t.deliverCredit l dst src limit = t.strayed l :=
  if_neg fun e => h ⟨fits_iff.mp e.1, e.2⟩

/-! ## CHAN-CLOSE and CHAN-CLOSED -/

theorem deliverClosed_stray
    (h : ¬ (t.Matches l dst src ∧ (t.chan dst).closeSent = true ∧ ((t.chan dst).state = .closing ∨ (t.chan dst).state = .aborting))) :
    t.deliverClosed l dst src = t.strayed l := by
  unfold State.deliverClosed
  dsimp only
  split
  · rename_i hf
    split <;> rename_i hs
    · exact absurd ⟨fits_iff.mp hf.1, hf.2, .inl hs⟩ h
    · exact absurd ⟨fits_iff.mp hf.1, hf.2, .inr hs⟩ h
    all_goals rfl
  · rfl

theorem closeEffect_stray (abort : Bool)
    (h : ¬ (t.Matches l dst src ∧ ((t.chan dst).Talks ∨ (t.chan dst).state = .aborting))) :
    t.closeEffect l dst src abort = t.strayed l := by
  unfold State.closeEffect
  dsimp only
  split
  · rename_i hf
    split <;> rename_i hs
    · exact absurd ⟨fits_iff.mp hf, .inl (.inl hs)⟩ h
    · exact absurd ⟨fits_iff.mp hf, .inl (.inr (.inl hs))⟩ h
    · exact absurd ⟨fits_iff.mp hf, .inl (.inr (.inr hs))⟩ h
    · exact absurd ⟨fits_iff.mp hf, .inr hs⟩ h
    all_goals rfl
  · rfl

theorem answer_eq (t : State) (l : LinkId) (a : Answer) :
    t.answer l a = t.setLink l { t.link l with answers := answersWith a (t.link l).answers } := by
  simp only [State.answer, pushAnswer_eq]

/-! ## CHAN-OPEN -/

/-- A LISTEN record is bound to the link, and its remote id is ANY or the sender (R13). -/
def Chan.listensTo (c : Chan) (l : LinkId) (src : ChanId) : Prop := c.link = l ∧ (c.remote = none ∨ c.remote = some src)

theorem deliverOpen_accepted (w : Nat) (hs : (t.chan dst).state = .listen) (hf : (t.chan dst).listensTo l src)
    (hr : (t.chan dst).rxWindow ≤ t.pool.free - t.pool.reserved) : t.deliverOpen l dst src w = t.acceptOpen dst src w := by
  simp only [State.deliverOpen, hs]
  exact (if_pos hf).trans (if_pos hr)

theorem deliverOpen_short (w : Nat) (hs : (t.chan dst).state = .listen) (hf : (t.chan dst).listensTo l src)
    (hr : t.pool.free - t.pool.reserved < (t.chan dst).rxWindow) : t.deliverOpen l dst src w = t.listenerShort l dst src := by
  simp only [State.deliverOpen, hs]
  exact (if_pos hf).trans (if_neg (Nat.not_le.mpr hr))

theorem deliverOpen_crossing (w : Nat) (hs : (t.chan dst).state = .opening) (hm : t.Matches l dst src) :
    t.deliverOpen l dst src w = t.crossOpen dst w := by
  simp only [State.deliverOpen, hs, fits_iff.mpr hm, if_true]

/-- A CHAN-OPEN for want of a listener (R12). -/
theorem deliverOpen_noListener (w : Nat)
    (h : (t.chan dst).state = .free ∨ (t.chan dst).state = .listen ∧ ¬ (t.chan dst).listensTo l src) :
    t.deliverOpen l dst src w = (t.refuseOpen l dst src .noListener).stray l := by
  rcases h with hs | ⟨hs, hf⟩
  · simp only [State.deliverOpen, hs]
  · simp only [State.deliverOpen, hs]
    exact if_neg hf

/-- A CHAN-OPEN at a record in use (R12, R16). -/
theorem deliverOpen_busy (w : Nat)
    (h : (t.chan dst).state = .opening ∧ ¬ t.Matches l dst src ∨ (t.chan dst).state = .opened ∨ (t.chan dst).state = .closing
      ∨ (t.chan dst).state = .ended ∨ (t.chan dst).state = .aborting) :
    t.deliverOpen l dst src w = (t.refuseOpen l dst src .busy).stray l := by
  rcases h with ⟨hs, hm⟩ | hs | hs | hs | hs
  · simp only [State.deliverOpen, hs]
    exact if_neg fun e => hm (fits_iff.mp e)
  all_goals simp only [State.deliverOpen, hs]

theorem setOwed_postTo (t : State) (p : Slot) (e : Event) (i : ChanId) (o : Owed) :
    (t.postTo p e).setOwed i o = (t.setOwed i o).postTo p e := rfl

/-- A record that owes nothing comes to owe something, at the tail of the control-ready list (R24). -/
theorem setOwed_of_quiet {t : State} {i : ChanId} {o : Owed} (h : (t.chan i).owed = {}) (ho : o ≠ {}) :
    t.setOwed i o = (t.setChan i { t.chan i with owed := o }).setLink (t.chan i).link
      { t.link (t.chan i).link with ready := (t.link (t.chan i).link).ready ++ [i] } := by
  rw [setOwed_eq, readyAfter_eq, if_pos ⟨h, ho⟩]

/-- A record that owes something goes on owing: it keeps its place on the control-ready list (R24). -/
theorem setOwed_of_owing {t : State} {i : ChanId} {o : Owed} (h : (t.chan i).owed ≠ {}) (ho : o ≠ {}) :
    t.setOwed i o = t.setChan i { t.chan i with owed := o } := by
  rw [setOwed_eq, readyAfter_eq, if_neg (fun e => h e.1), if_neg (fun e => ho e.2)]
  exact setLink_ready_self (t.setChan i { t.chan i with owed := o }) _

/-- A LISTEN record that owes nothing accepts: ACCEPT is owed, at the tail of the control-ready list (R13, R24). -/
theorem acceptOpen_eq (t : State) (i src : ChanId) (w : Nat) (ho : (t.chan i).owed = {}) : t.acceptOpen i src w =
    (((t.setPool { t.pool with reserved := t.pool.reserved + (t.chan i).rxWindow }).setChan i { (t.chan i).opens w with
        remote := some src, rxConsumed := 0, rxGranted := BitVec.ofNat 8 (t.chan i).rxWindow, refusedAttempts := 0,
        owed := { accept := true } }).setLink (t.chan i).link
        { t.link (t.chan i).link with ready := (t.link (t.chan i).link).ready ++ [i] }).postTo (t.chan i).owner
      { kind := .chOpened, link := (t.chan i).link, channel := i, reason := none, arg := 0 } := by
  simp only [State.acceptOpen, enterOpen_eq, setOwed_postTo, chan_setChan, setChan_setChan]
  rw [setOwed_of_quiet (by simpa [Chan.opens] using ho) (by simp)]
  simp only [chan_setChan, setChan_setChan]
  rfl

/-- A crossing open where OPEN is owed: ACCEPT takes its place, and the record keeps its place on the control-ready list (R15, R24). -/
theorem crossOpen_owed (t : State) (i : ChanId) (w : Nat) (ho : (t.chan i).owed.opn = true) : t.crossOpen i w =
    (t.setChan i { (t.chan i).opens w with owed := { (t.chan i).owed with opn := false, accept := true } }).postTo (t.chan i).owner
      { kind := .chOpened, link := (t.chan i).link, channel := i, reason := none, arg := 0 } := by
  have owing : ((t.setChan i ((t.chan i).opens w)).chan i).owed ≠ {} := by
    rw [chan_setChan]; intro e; have := congrArg Owed.opn e; simp [Chan.opens, ho] at this
  simp only [State.crossOpen, ho, if_true, enterOpen_eq, setOwed_postTo]
  rw [setOwed_of_owing owing (by simp), chan_setChan, setChan_setChan]

theorem crossOpen_sent (t : State) (i : ChanId) (w : Nat) (ho : (t.chan i).owed.opn = false) :
    t.crossOpen i w = t.enterOpen i w := by
  simp [State.crossOpen, ho]

end Deliver

/-- Settles O48. -/
theorem acceptRefuseAndCreditAct : Obligations.AcceptRefuseAndCreditAct := by
  intro s l nr dst src x h t c hm
  refine ⟨?_, ?_, ?_, ?_⟩
  · rintro w rfl hs ho
    rw [exec_chanAccept h, deliverAccept_awaited w hm ⟨hs, ho⟩, enterOpen_eq, hm.2.1]
  · rintro r rfl hs ho
    rw [exec_chanRefuse h, deliverRefuse_awaited r hm ⟨hs, ho⟩]
  · rintro r rfl hs
    rw [exec_chanRefuse h, deliverRefuse_aborting r hm hs]
  · rintro limit rfl hs
    rw [exec_chanCredit h, deliverCredit_flows limit hm hs]
    refine ⟨fun h1 h2 h3 => by rw [if_pos (takesLimit_iff.mpr ⟨h1, h2, h3⟩)], fun hn => ?_⟩
    rw [if_neg fun e => ?_]
    obtain ⟨h1, h2, h3⟩ := takesLimit_iff.mp e
    rcases hn with hn | hn | hn
    · exact absurd hn (Nat.one_le_iff_ne_zero.mp h1)
    · exact absurd h2 (Nat.not_le.mpr hn)
    · exact absurd h3 (Nat.not_le.mpr hn)

/-- Settles O50. -/
theorem framesWithoutTheirRecordAreStray : Obligations.FramesWithoutTheirRecordAreStray := by
  intro s l nr dst src x h t c sent u
  refine ⟨?_, ?_, ?_, ?_, ?_⟩
  · rintro w rfl hn
    rw [exec_chanAccept h, deliverAccept_stray w hn]
  · rintro r rfl hn
    rw [exec_chanRefuse h, deliverRefuse_stray r hn]
  · rintro limit rfl hn
    rw [exec_chanCredit h, deliverCredit_stray limit hn]
  · rintro rfl hn
    rw [exec_chanClosed h, deliverClosed_stray hn]
  · rintro abort rfl hn
    rw [exec_chanClose h, State.deliverClose, closeEffect_stray, answer_eq]
    exact fun e => hn ⟨e.1, by have := e.2; unfold Chan.Talks at this; tauto⟩

/-- Settles O47: the state of the addressed record, and what it is bound to, choose the case of Table 1-4. -/
theorem chanOpenMeetsTheRecord : Obligations.ChanOpenMeetsTheRecord := by
  intro s l nr dst src w h t c k ends opened answers refused forUs
  have run {u : State} (e : t.deliverOpen l dst src w = u) : ends u := by rw [← e]; exact exec_chanOpen h
  refine ⟨fun hs hf hr ho => run ?_, fun hs hf hr => run ?_, fun hs hf => run ?_, fun hs => run ?_, fun hs hm ho => run ?_,
    fun hs hm ho => run ?_, fun hs hm => run ?_, fun hs => run ?_⟩
  · rw [deliverOpen_accepted w hs hf hr, acceptOpen_eq _ _ _ _ ho, hf.1]
  · rw [deliverOpen_short w hs hf hr, State.listenerShort, State.refuseOpen, answer_eq]
    rfl
  · rw [deliverOpen_noListener w (.inr ⟨hs, hf⟩), refused_eq]
  · rw [deliverOpen_noListener w (.inl hs), refused_eq]
  · rw [deliverOpen_crossing w hs hm, crossOpen_owed _ _ _ ho, hm.2.1]
  · rw [deliverOpen_crossing w hs hm, crossOpen_sent _ _ _ ho, enterOpen_eq, hm.2.1]
  · rw [deliverOpen_busy w (.inl ⟨hs, hm⟩), refused_eq]
  · rw [deliverOpen_busy w (.inr hs), refused_eq]

end Sys2Proof.Machine
end

section
/-! SUPPORT. The state after reset and the effect of device reset, block by block (R2, R27, R104, R137, R149, R169). -/

namespace Sys2Proof.Machine

/-! ## The blocks after reset -/

@[simp] theorem reset_port (p : Slot) : State.reset.port p = {} := by simp [State.port, State.reset]
@[simp] theorem reset_chan (i : ChanId) : State.reset.chan i = {} := by simp [State.chan, State.reset]
@[simp] theorem reset_link (l : LinkId) : State.reset.link l = {} := by simp [State.link, State.reset]
@[simp] theorem reset_line (l : LinkId) : State.reset.line l = {} := by simp [State.line, State.reset]

theorem reset_portsOk : State.reset.PortsOk where
  ok p := by rw [reset_port]; constructor <;> simp
  held h := by cases h
  pin _ p := by simp

theorem reset_linesOk : State.reset.LinesOk := fun l => by
  rw [reset_line]; constructor <;> simp

theorem reset_linksOk : State.reset.LinksOk := fun l => by
  rw [reset_link]; constructor <;> simp

theorem reset_poolOk : State.reset.PoolOk := by constructor <;> decide

theorem reset_framesOk : State.reset.FramesOk := by constructor <;> simp

/-- No port is enabled after reset, so no transmitter is idle. -/
theorem reset_settled : State.reset.Settled := fun l he => by simp at he

/-- Settles O3: every block at its state after device reset obeys its law. -/
theorem resetMeetsLaws : Obligations.ResetMeetsLaws :=
  ⟨reset_portsOk, reset_linesOk, reset_linksOk, readyOk_law.cleared reset_chan reset_link,
    (recordsOk_law trivial).cleared reset_chan reset_link, reset_poolOk, reset_framesOk, nofun, reset_settled⟩

/-! ## Device reset -/

/-- Settles O26. -/
theorem deviceResetSetsEveryBlock : Obligations.DeviceResetSetsEveryBlock := by
  intro s
  refine ⟨⟨_, rfl, rfl, rfl, rfl, rfl, fun l => ?_, fun p => ?_, rfl, rfl⟩,
    fun h => ⟨_, if_pos h, rfl, fun p => ?_, rfl, rfl, rfl, rfl, rfl, rfl⟩⟩
  · simp [State.line, LinePort.deviceHeld]
  · simp [State.port, HostPort.held]
  · simp only [State.port, Fin.getElem_fin, Vector.getElem_map]; rfl

end Sys2Proof.Machine
end

section
/-! SUPPORT. The queries (R25, R33, R103): each answers with the bytes of its table and changes nothing. -/

namespace Sys2Proof.Machine

theorem byteOf_eq (n : Nat) : byteOf n = BitVec.ofNat 8 n := rfl

theorem ofNat_toNat_byte (b : Byte) : BitVec.ofNat 8 b.toNat = b := by simp

/-- A field that reads 0 outside its states, as a byte. -/
theorem ofNat_ite_zero (q : Prop) [Decidable q] (n : Nat) :
    BitVec.ofNat 8 (if q then n else 0) = if q then BitVec.ofNat 8 n else 0#8 := apply_ite ..

theorem ofNat_zero_ite (q : Prop) [Decidable q] (n : Nat) :
    BitVec.ofNat 8 (if q then 0 else n) = if q then 0#8 else BitVec.ofNat 8 n := apply_ite ..

theorem getD_byte_eq (x : Option Byte) :
    x.getD 0#8 = BitVec.ofNat 8 (match x with | some e => e.toNat | none => 0) := by
  cases x with
  | none => rfl
  | some e => exact (ofNat_toNat_byte e).symm

theorem getD_nat_eq (x : Option Nat) : x.getD 0 = match x with | some a => a | none => 0 := by
  cases x <;> rfl

theorem reasonByte_eq (x : Option Reason) :
    reasonByte x = BitVec.ofNat 8 (match x with | some r => r.code | none => 0) := by
  cases x <;> rfl

theorem flagByte_eq (b : Bool) : flagByte b = BitVec.ofNat 8 (if b then 1 else 0) := by
  cases b <;> rfl

theorem bit_eq (b : Bool) (n : Nat) : bit b n = if b then 2 ^ n else 0 := by
  cases b <;> simp [bit]

theorem flagsByte_eq (k : Link) : k.flagsByte
    = BitVec.ofNat 8 ((if k.pollOutstanding then 1 else 0) + if k.goBack.isSome then 2 else 0) := by
  rw [Link.flagsByte, bit_eq, bit_eq]; rfl

theorem OwedLink.byte_eq (o : OwedLink) : o.byte = BitVec.ofNat 8 ((if o.closed then 1 else 0) + (if o.close then 2 else 0)
    + (if o.accept then 4 else 0) + if o.opn then 8 else 0) := by
  rw [OwedLink.byte, bit_eq, bit_eq, bit_eq, bit_eq]; rfl

theorem closeWithData_eq (x : Option Bool) : x.getD false = decide (x = some true) := by
  rcases x with _ | _ | _ <;> rfl

theorem Owed.byte_eq (o : Owed) : o.byte = BitVec.ofNat 8 ((if o.opn then 1 else 0) + (if o.accept then 2 else 0)
    + (if o.credit then 4 else 0) + (if o.close.isSome then 8 else 0) + if o.close = some true then 16 else 0) := by
  rw [Owed.byte, bit_eq, bit_eq, bit_eq, bit_eq, bit_eq, closeWithData_eq]
  simp only [decide_eq_true_eq]; rfl

/-- A record is out of every state but FREE (Table 1-2). -/
theorem mem_live_iff (x : ChState) :
    x ∈ [ChState.listen, .opening, .opened, .closing, .ended, .aborting] ↔ ¬ x = .free := by
  cases x <;> decide

theorem mem_timed_iff (x : LinkState) :
    (x = .starting ∨ x = .up ∨ x = .stopping) ↔ x ∈ [LinkState.starting, .up, .stopping] := by
  simp

/-- A request whose command answers OK with a body and changes nothing. -/
theorem query_run {s : State} {p : Slot} {code : Byte} {h : ReqHeader} {st : Staging} {row : Byte → Bool} {body : List Byte}
    {act : Action} {x y : List Byte} (w : s.Requests p code body h st) (hr : row code = true) (hk : knownCode code = true)
    (hl : acceptsLength code body.length = true) (ha : act h st s = (s, okReply x)) (e : x = y) :
    s.request p row body act = .next (s.reply p h { result := .ok, body := y } body.length) := by
  subst e
  exact request_answers w hr hk hl ha

/-- Settles O31. -/
theorem queriesAnswer : Obligations.QueriesAnswer := by
  intro s p h st b l i n8 n16 f k c par up inSet
  refine ⟨fun w hb => ?_, fun w hb => ?_, fun w => ?_⟩
  · have e : State.doLinkQuery [b] h st s = (s, okReply (k.queryBody l)) := by
      simp [State.doLinkQuery, bodyAt, hb, k]
    refine query_run (row := (· == 0x13#8)) w rfl rfl rfl e ?_
    have hpar (g : Params → Nat) : (k.params.map g).getD 0 = par g := by
      simp only [par]; cases k.params <;> rfl
    simp only [Link.queryBody, n8, n16, up, be16, counterBytes, List.cons_append, List.nil_append,
      List.cons.injEq, byteOf_eq, ofNat_toNat_byte, ofNat_ite_zero, hpar,
      flagsByte_eq, OwedLink.byte_eq, mem_timed_iff, f, true_and, and_true]
    refine ⟨rfl, ?_, rfl, getD_byte_eq k.peerEpoch, congrArg _ (getD_nat_eq k.agreed), reasonByte_eq k.lastReason⟩
    cases k.controller <;> rfl
  · have e : State.doChQuery [b] h st s = (s, okReply (c.queryBody i)) := by
      simp [State.doChQuery, bodyAt, hb, c]
    refine query_run (row := (· == 0x24#8)) w rfl rfl rfl e ?_
    simp only [Chan.queryBody, n8, inSet, List.cons_append, List.nil_append, List.cons.injEq, byteOf_eq,
      ofNat_toNat_byte, ofNat_ite_zero, ofNat_zero_ite, List.contains_iff_mem, mem_live_iff, ite_not,
      flagByte_eq, Owed.byte_eq, decide_eq_true_eq, f, true_and, and_true]
    refine ⟨rfl, ?_, rfl, ?_⟩
    · cases c.remote <;> rfl
    · cases c.endReason <;> rfl
  · refine query_run (row := (· == 0x40#8)) w rfl rfl rfl rfl ?_
    rfl

end Sys2Proof.Machine
end

section
/-! SUPPORT. The taking of a FREE record by CH-LISTEN and CH-OPEN (R5 to R8). -/

namespace Sys2Proof.Machine

/-- The lowest FREE record (R5). -/
theorem lowestFree_eq {s : State} {i : ChanId} (hf : (s.chan i).state = .free) (hlow : ∀ j, j < i → (s.chan j).state ≠ .free) :
    s.lowestFree = some i := by
  rw [State.lowestFree, allChans, List.find?_eq_some_iff_getElem]
  refine ⟨decide_eq_true hf, i.val, by simp, by simp, fun j hj => ?_⟩
  simpa using hlow ⟨j, hj.trans i.isLt⟩ hj

/-- H'FF names no record. -/
theorem chanOf_any : chanOf (0xFF#8).toNat = none := rfl

/-- The local id of the specification's reading resolves in the model (R5). -/
theorem resolve_of_resolves {s : State} {a : Byte} {i : ChanId} (h : s.Resolves a i) : s.resolve a.toNat = .ok i := by
  obtain ⟨hf, ha | ⟨rfl, hlow⟩⟩ := h
  · rw [State.resolve, ha, chanOf_val]
    exact if_pos hf
  · rw [State.resolve, chanOf_any, lowestFree_eq hf hlow]

/-- A local id that resolves is a record's or H'FF. -/
theorem between_of_resolves {s : State} {a : Byte} {i : ChanId} (h : s.Resolves a i) : between a.toNat = false := by
  obtain ⟨-, ha | ⟨rfl, -⟩⟩ := h
  · simp [between]; omega
  · rfl

/-- The remote id of a request: a record's, or H'FF for ANY. -/
def RemoteIs (br : Byte) (remote : Option ChanId) : Prop :=
  match remote with | some j => br.toNat = j.val | none => br = 0xFF#8

theorem RemoteIs.remoteOf {br : Byte} {remote : Option ChanId} (h : RemoteIs br remote) : remoteOf br.toNat = remote := by
  cases remote with
  | none => rw [show br = 0xFF#8 from h]; rfl
  | some j => rw [show br.toNat = j.val from h]; exact chanOf_val j

theorem RemoteIs.between {br : Byte} {remote : Option ChanId} (h : RemoteIs br remote) : between br.toNat = false := by
  cases remote with
  | none => rw [show br = 0xFF#8 from h]; rfl
  | some j => have e : br.toNat = j.val := h; simp [Machine.between]; omega

/-- The body of a CH-LISTEN or CH-OPEN that passes the BAD-ARG check. -/
structure TakesRecord (s : State) (a bl br bw bc : Byte) (l : LinkId) (i : ChanId) (remote : Option ChanId) : Prop where
  link : bl.toNat = l.val
  resolves : s.Resolves a i
  window_pos : 1 ≤ bw.toNat
  window_le : bw.toNat ≤ 64
  cls : bc = 0#8 ∨ bc = 1#8
  remote : RemoteIs br remote

section
variable {s : State} {a bl br bw bc : Byte} {l : LinkId} {i : ChanId} {remote : Option ChanId}

theorem takeBody_five : takeBody [a, bl, br, bw, bc] = ⟨a.toNat, bl.toNat, br.toNat, bw.toNat, bc.toNat⟩ := rfl

theorem TakesRecord.badCommon (t : TakesRecord s a bl br bw bc l i remote) : (takeBody [a, bl, br, bw, bc]).badCommon = false := by
  have hc : bc.toNat ≤ 1 := by obtain rfl | rfl := t.cls <;> decide
  have hl := t.link
  have h1 := t.window_pos
  have h2 := t.window_le
  rw [TakeBody.badCommon, takeBody_five, between_of_resolves t.resolves, Bool.false_or]
  exact decide_eq_false (show ¬ (1 < bl.toNat ∨ bw.toNat = 0 ∨ 64 < bw.toNat ∨ 1 < bc.toNat) by omega)

theorem TakesRecord.linkOf (t : TakesRecord s a bl br bw bc l i remote) :
    linkOf (takeBody [a, bl, br, bw, bc]).link = some l :=
  (congrArg Machine.linkOf t.link).trans (linkOf_val l)

theorem TakesRecord.resolve (t : TakesRecord s a bl br bw bc l i remote) :
    s.resolve (takeBody [a, bl, br, bw, bc]).localId = .ok i :=
  resolve_of_resolves t.resolves

theorem TakesRecord.classOf (t : TakesRecord s a bl br bw bc l i remote) :
    classOf bc.toNat = if bc = 0#8 then .normal else .urgent := by
  obtain rfl | rfl := t.cls <;> rfl

/-- CH-LISTEN takes the record (R6). -/
theorem TakesRecord.doChListen (t : TakesRecord s a bl br bw bc l i remote) (p : Slot) (h : ReqHeader) (st : Staging) :
    State.doChListen p [a, bl, br, bw, bc] h st s
      = (s.setChan i (listening p l (takeBody [a, bl, br, bw, bc])), okReply [byteOf i.val]) := by
  have hb : (takeBody [a, bl, br, bw, bc]).badListen = false := by
    rw [TakeBody.badListen, t.badCommon]; exact t.remote.between
  simp only [State.doChListen, hb, t.linkOf, t.resolve, Bool.false_eq_true, if_false]

/-- CH-OPEN takes the record, when its link is UP and its window can be reserved (R7, R8). -/
theorem TakesRecord.doChOpen (t : TakesRecord s a bl br bw bc l i remote) (hr : remote ≠ none) (hup : (s.link l).state = .up)
    (hfit : bw.toNat ≤ s.pool.unreserved) (p : Slot) (h : ReqHeader) (st : Staging) :
    State.doChOpen p [a, bl, br, bw, bc] h st s
      = (s.openRecord i p l (takeBody [a, bl, br, bw, bc]), okReply [byteOf i.val]) := by
  have hb : (takeBody [a, bl, br, bw, bc]).badOpen = false := by
    obtain ⟨j, rfl⟩ := Option.ne_none_iff_exists'.1 hr
    have e : br.toNat = j.val := t.remote
    rw [TakeBody.badOpen, t.badCommon, takeBody_five, e]
    simp; omega
  have hw : ¬ s.pool.unreserved < (takeBody [a, bl, br, bw, bc]).rxWindow := Nat.not_lt.2 hfit
  simp only [State.doChOpen, hb, t.linkOf, t.resolve, Bool.false_eq_true, if_false, hup, ne_eq, not_true_eq_false, hw]

end

/-- A record that CH-OPEN takes owes OPEN, at the tail of the control-ready list of its link (R8, R24, R95). -/
theorem openRecord_eq (s : State) (i : ChanId) (p : Slot) (l : LinkId) (b : TakeBody) :
    s.openRecord i p l b = ((s.setChan i { openingRecord p l b with owed := { opn := true } }).setPool
      { s.pool with reserved := s.pool.reserved + b.rxWindow }).setLink l
        { s.link l with ready := (s.link l).ready ++ [i] } := by
  let t := (s.setChan i (openingRecord p l b)).setPool (s.pool.reserve b.rxWindow)
  have hc : t.chan i = openingRecord p l b := by simp [t]
  have hq : (t.chan i).owed = {} := by rw [hc]; rfl
  rw [State.openRecord, setOwed_of_quiet hq (by decide), hc]
  simp [t, openingRecord, setPool_setChan, Pool.reserve]

/-- Settles O35. -/
theorem listenAndOpenTakeARecord : Obligations.ListenAndOpenTakeARecord := by
  intro s p h st a bl br bw bc l i remote hl hres h1 h64 hc hrem cls reply
  have t : TakesRecord s a bl br bw bc l i remote := ⟨hl, hres, h1, h64, hc, by cases remote <;> exact hrem⟩
  refine ⟨fun w => ?_, fun w hr hup hfit => ?_⟩
  · have e : listening p l (takeBody [a, bl, br, bw, bc]) = { state := .listen, owner := p, link := l, remote, cls, rxWindow := bw.toNat, rxHeld := 0, recvQ := [], owed := {}, refusedAttempts := 0 } := by
      simp [listening, takeBody_five, t.remote.remoteOf, t.classOf, cls]
    have ha := t.doChListen p h st
    rw [e] at ha
    exact request_answers (row := (· == 0x20#8)) w rfl rfl rfl ha
  · have ha := t.doChOpen hr hup hfit p h st
    rw [openRecord_eq] at ha
    have e : openingRecord p l (takeBody [a, bl, br, bw, bc]) = { state := .opening, owner := p, link := l, remote, cls, rxWindow := bw.toNat, rxGranted := bw } := by
      simp [openingRecord, takeBody_five, t.remote.remoteOf, t.classOf, cls]
    rw [e] at ha
    exact congrArg settled (request_answers (row := (· == 0x21#8)) w rfl rfl rfl ha)

end Sys2Proof.Machine
end

section
/-! SUPPORT. The checks of the commands (R155, and the rule of each command): the first that fails gives the result. -/

namespace Sys2Proof.Machine

/-! ## The first check that fails -/

@[simp] theorem firstFailing_nil : firstFailing [] = none := rfl

@[simp] theorem firstFailing_cons (b : Bool) (q r : Result) (cs : List (Bool × Result)) :
    firstFailing ((b, q) :: cs) = some r ↔ (b = true ∧ q = r) ∨ (b = false ∧ firstFailing cs = some r) := by
  cases b <;> simp [firstFailing]

/-- A check that reads a body byte as a number. -/
theorem toNat_getD (body : List Byte) (k : Nat) : (body.getD k 0#8).toNat = bodyAt body k := rfl

/-! ## Links and records named by a body byte -/

theorem linkOf_eq_none {n : Nat} (h : 1 < n) : linkOf n = none := dif_neg (by omega)

theorem linkOf_eq_some {n : Nat} (h : n ≤ 1) : linkOf n = some (Fin.ofNat 2 n) := by
  rw [linkOf, dif_pos (by omega)]
  exact congrArg some (Fin.ext (Nat.mod_eq_of_lt (by omega)).symm)

theorem chanOf_eq_none {n : Nat} (h : 31 < n) : chanOf n = none := dif_neg (by omega)

theorem chanOf_eq_some {n : Nat} (h : n ≤ 31) : chanOf n = some (Fin.ofNat 32 n) := by
  rw [chanOf, dif_pos (by omega)]
  exact congrArg some (Fin.ext (Nat.mod_eq_of_lt (by omega)).symm)

section
variable {s : State} {p : Slot} {n : Nat}

theorem owned_of_not_id (hn : 31 < n) : s.owned p n = .error .badArg := by
  rw [State.owned, chanOf_eq_none hn]

theorem owned_of_not_owned (hn : n ≤ 31) (hc : (s.chan (Fin.ofNat 32 n)).state = .free ∨ (s.chan (Fin.ofNat 32 n)).owner ≠ p) :
    s.owned p n = .error .notOwner := by
  rw [State.owned, chanOf_eq_some hn]
  exact if_pos hc

theorem owned_of_owned (hn : n ≤ 31) (hc : (s.chan (Fin.ofNat 32 n)).state ≠ .free ∧ (s.chan (Fin.ofNat 32 n)).owner = p) :
    s.owned p n = .ok (Fin.ofNat 32 n) := by
  rw [State.owned, chanOf_eq_some hn]
  exact if_neg (by simpa using hc)

theorem resolve_of_inUse (hn : n ≤ 31) (hc : (s.chan (Fin.ofNat 32 n)).state ≠ .free) : s.resolve n = .error .inUse := by
  rw [State.resolve, chanOf_eq_some hn]
  exact if_neg hc

theorem resolve_of_full (hn : 31 < n) (hc : ∀ j, (s.chan j).state ≠ .free) : s.resolve n = .error .noChannel := by
  have hf : s.lowestFree = none := List.find?_eq_none.2 fun j _ => by simpa using hc j
  rw [State.resolve, chanOf_eq_none hn, hf]

/-- A local id that passes its checks resolves (R5). -/
theorem resolve_of_free (hid : n ≤ 31 → (s.chan (Fin.ofNat 32 n)).state = .free) (hany : 31 < n → ∃ j, (s.chan j).state = .free) :
    ∃ i, s.resolve n = .ok i := by
  by_cases hn : n ≤ 31
  · exact ⟨_, by rw [State.resolve, chanOf_eq_some hn]; exact if_pos (hid hn)⟩
  · obtain ⟨j, hj⟩ := hany (by omega)
    have hf : s.lowestFree.isSome := List.find?_isSome.2 ⟨j, List.mem_finRange j, decide_eq_true hj⟩
    obtain ⟨i, hi⟩ := Option.isSome_iff_exists.1 hf
    exact ⟨i, by rw [State.resolve, chanOf_eq_none (by omega), hi]⟩

end

/-! ## The BAD-ARG checks of the bodies with several fields -/

/-- The parameters of a full LINK-START body lie outside their ranges (R28, Table 2-3); the defaults of the short form do not. -/
theorem startParams_inRange_iff {body : List Byte} : (startParams body).inRange = false ↔ body.length = 10 ∧
    (bodyAt body 2 = 0 ∨ 16 < bodyAt body 2 ∨ 7 < bodyAt body 3 ∨ bodyAt body 4 = 0 ∨ bodyAt2 body 5 < 10
      ∨ 10000 < bodyAt2 body 5 ∨ (1 ≤ bodyAt2 body 7 ∧ bodyAt2 body 7 ≤ 99) ∨ 60000 < bodyAt2 body 7 ∨ bodyAt body 9 = 0
      ∨ 15 < bodyAt body 9) := by
  have hb : bodyAt body 4 ≤ 255 := by unfold bodyAt; omega
  by_cases hl : body.length = 10
  · simp only [startParams, hl, if_true, Params.inRange, decide_eq_false_iff_not, true_and]
    omega
  · simp [startParams, hl, Params.inRange, Params.defaults]

theorem startBadArg_iff {body : List Byte} :
    startBadArg body = true ↔ (1 < bodyAt body 0 ∨ 1 < bodyAt body 1) ∨ (startParams body).inRange = false := by
  simp [startBadArg]

theorem badListen_iff {body : List Byte} : (takeBody body).badListen = true ↔
    (32 ≤ bodyAt body 0 ∧ bodyAt body 0 ≤ 254) ∨ 1 < bodyAt body 1 ∨ (32 ≤ bodyAt body 2 ∧ bodyAt body 2 ≤ 254)
      ∨ bodyAt body 3 = 0 ∨ 64 < bodyAt body 3 ∨ 1 < bodyAt body 4 := by
  simp only [TakeBody.badListen, TakeBody.badCommon, between, Bool.or_eq_true, decide_eq_true_eq]
  simp only [takeBody]
  tauto

theorem badOpen_iff {body : List Byte} : (takeBody body).badOpen = true ↔
    (32 ≤ bodyAt body 0 ∧ bodyAt body 0 ≤ 254) ∨ 1 < bodyAt body 1 ∨ 31 < bodyAt body 2
      ∨ bodyAt body 3 = 0 ∨ 64 < bodyAt body 3 ∨ 1 < bodyAt body 4 := by
  simp only [TakeBody.badOpen, TakeBody.badCommon, between, Bool.or_eq_true, decide_eq_true_eq]
  simp only [takeBody]
  tauto

/-! ## The refusals of the commands -/

section
variable {s : State} {p : Slot} {h : ReqHeader} {st : Staging} {body : List Byte} {r : Result}

theorem doAttach_refuses (hf : firstFailing (s.checks p 0x01#8 body st) = some r) :
    State.doAttach p h st s = (s, refusedReply r) := by
  simp [State.checks, -Fin.ofNat_eq_cast] at hf
  obtain ⟨ha, rfl⟩ := hf
  exact if_pos ha

theorem doLinkStop_refuses (hf : firstFailing (s.checks p 0x11#8 body st) = some r) :
    State.doLinkStop p body h st s = (s, refusedReply r) := by
  simp [State.checks, -Fin.ofNat_eq_cast] at hf
  obtain ⟨hb, rfl⟩ | ⟨hb, ⟨hs, rfl⟩ | ⟨hs, hc, rfl⟩⟩ := hf
  · simp [State.doLinkStop, bodyAt, linkOf_eq_none hb]
  · simp [State.doLinkStop, bodyAt, linkOf_eq_some hb, -Fin.ofNat_eq_cast, hs]
  · simp [State.doLinkStop, bodyAt, linkOf_eq_some hb, -Fin.ofNat_eq_cast, hs, hc]

theorem doLinkQuery_refuses (hf : firstFailing (s.checks p 0x13#8 body st) = some r) :
    State.doLinkQuery body h st s = (s, refusedReply r) := by
  simp [State.checks, -Fin.ofNat_eq_cast] at hf
  obtain ⟨hb, rfl⟩ := hf
  simp [State.doLinkQuery, bodyAt, linkOf_eq_none hb]

theorem doChQuery_refuses (hf : firstFailing (s.checks p 0x24#8 body st) = some r) :
    State.doChQuery body h st s = (s, refusedReply r) := by
  simp [State.checks, -Fin.ofNat_eq_cast] at hf
  obtain ⟨hb, rfl⟩ := hf
  simp [State.doChQuery, bodyAt, chanOf_eq_none hb]

theorem doLinkClaim_refuses (hf : firstFailing (s.checks p 0x12#8 body st) = some r) :
    State.doLinkClaim p body h st s = (s, refusedReply r) := by
  simp [State.checks, -Fin.ofNat_eq_cast] at hf
  obtain ⟨hb, rfl⟩ | ⟨hb, ⟨hs, rfl⟩ | ⟨hs, ⟨hc, hp⟩, rfl⟩⟩ := hf
  · simp [State.doLinkClaim, bodyAt, linkOf_eq_none hb]
  · simp [State.doLinkClaim, bodyAt, linkOf_eq_some hb, -Fin.ofNat_eq_cast, hs]
  · obtain ⟨q, hq⟩ := Option.ne_none_iff_exists'.1 hc
    have hqp : q ≠ p := fun e => hp (e ▸ hq)
    simp [State.doLinkClaim, bodyAt, linkOf_eq_some hb, -Fin.ofNat_eq_cast, hs, hq, hqp]

theorem doChClose_refuses (hf : firstFailing (s.checks p 0x22#8 body st) = some r) :
    State.doChClose p body h st s = (s, refusedReply r) := by
  simp [State.checks, -Fin.ofNat_eq_cast] at hf
  obtain ⟨hb, rfl⟩ | ⟨hb, ⟨ho, rfl⟩ | ⟨ho, hs, rfl⟩⟩ := hf
  · simp [State.doChClose, bodyAt, owned_of_not_id hb]
  · simp [State.doChClose, bodyAt, owned_of_not_owned hb ho]
  · simp [State.doChClose, bodyAt, owned_of_owned hb ho, -Fin.ofNat_eq_cast, hs]

theorem doChRelease_refuses (hf : firstFailing (s.checks p 0x23#8 body st) = some r) :
    State.doChRelease p body h st s = (s, refusedReply r) := by
  simp [State.checks, -Fin.ofNat_eq_cast] at hf
  obtain ⟨hb, rfl⟩ | ⟨hb, ⟨ho, rfl⟩ | ⟨ho, hs, rfl⟩⟩ := hf
  · simp [State.doChRelease, bodyAt, owned_of_not_id hb]
  · simp [State.doChRelease, bodyAt, owned_of_not_owned hb ho]
  · simp [State.doChRelease, bodyAt, owned_of_owned hb ho, -Fin.ofNat_eq_cast, hs]

theorem doRecv_refuses (hf : firstFailing (s.checks p 0x31#8 body st) = some r) :
    State.doRecv p body h st s = (s, refusedReply r) := by
  simp [State.checks, -Fin.ofNat_eq_cast] at hf
  obtain ⟨hb, rfl⟩ | ⟨hb, ⟨ho, rfl⟩ | ⟨ho, ⟨hs, rfl⟩ | ⟨hs, hq, rfl⟩⟩⟩ := hf
  · simp [State.doRecv, bodyAt, owned_of_not_id hb]
  · simp [State.doRecv, bodyAt, owned_of_not_owned hb ho]
  · simp [State.doRecv, bodyAt, owned_of_owned hb ho, -Fin.ofNat_eq_cast, hs]
  · simp [State.doRecv, bodyAt, owned_of_owned hb ho, -Fin.ofNat_eq_cast, hs, hq]

theorem doLinkStart_refuses (hf : firstFailing (s.checks p 0x10#8 body st) = some r) :
    State.doLinkStart p body h st s = (s, refusedReply r) := by
  simp only [State.checks, BitVec.toNat_ofNat, Nat.reducePow, Nat.reduceMod, firstFailing_cons, firstFailing_nil,
    decide_eq_true_eq, decide_eq_false_iff_not, reduceCtorEq, and_false, or_false] at hf
  simp only [toNat_getD] at hf
  obtain ⟨hb, rfl⟩ | ⟨hb, ⟨hq, rfl⟩ | ⟨hq, hf⟩⟩ := hf
  · exact if_pos (startBadArg_iff.2 (.inl hb))
  · exact if_pos (startBadArg_iff.2 (.inr (startParams_inRange_iff.2 hq)))
  · have hgood : ¬ startBadArg body = true := fun e => (startBadArg_iff.1 e).elim hb fun e => hq (startParams_inRange_iff.1 e)
    have hl := linkOf_eq_some (not_lt.1 fun e => hb (.inl e))
    obtain ⟨hs, rfl⟩ | ⟨-, ⟨hs, hc, hp⟩, rfl⟩ := hf
    · obtain hs | hs | hs | hs := hs <;> simp [State.doLinkStart, hgood, hl, hs, -Fin.ofNat_eq_cast]
    · simp [State.doLinkStart, hgood, hl, hs, hc, hp, -Fin.ofNat_eq_cast]

/-- A local id that does not resolve refuses CH-LISTEN (R5). -/
theorem doChListen_of_unresolved (hgood : ¬ (takeBody body).badListen = true) (hr : s.resolve (bodyAt body 0) = .error r) :
    State.doChListen p body h st s = (s, refusedReply r) := by
  have hl : linkOf (takeBody body).link = some (Fin.ofNat 2 (bodyAt body 1)) :=
    linkOf_eq_some (not_lt.1 fun e => hgood (badListen_iff.2 (.inr (.inl e))))
  have hr : s.resolve (takeBody body).localId = .error r := hr
  simp only [State.doChListen, hgood, hl, hr, Bool.false_eq_true, if_false]

theorem doChListen_refuses (hf : firstFailing (s.checks p 0x20#8 body st) = some r) :
    State.doChListen p body h st s = (s, refusedReply r) := by
  simp only [State.checks, BitVec.toNat_ofNat, Nat.reducePow, Nat.reduceMod, firstFailing_cons, firstFailing_nil,
    decide_eq_true_eq, decide_eq_false_iff_not, reduceCtorEq, and_false, or_false] at hf
  simp only [toNat_getD] at hf
  obtain ⟨hb, rfl⟩ | ⟨hb, hf⟩ := hf
  · exact if_pos (badListen_iff.2 hb)
  · have hgood : ¬ (takeBody body).badListen = true := fun e => hb (badListen_iff.1 e)
    obtain ⟨⟨hid, hc⟩, rfl⟩ | ⟨-, ⟨hany, hc⟩, rfl⟩ := hf
    · exact doChListen_of_unresolved hgood (resolve_of_inUse hid hc)
    · exact doChListen_of_unresolved hgood (resolve_of_full (by omega) hc)

/-- The link of a CH-OPEN that passes the BAD-ARG check (R7). -/
theorem linkOf_of_not_badOpen (hgood : ¬ (takeBody body).badOpen = true) :
    linkOf (takeBody body).link = some (Fin.ofNat 2 (bodyAt body 1)) :=
  linkOf_eq_some (not_lt.1 fun e => hgood (badOpen_iff.2 (.inr (.inl e))))

/-- A local id that does not resolve refuses CH-OPEN (R5). -/
theorem doChOpen_of_unresolved (hgood : ¬ (takeBody body).badOpen = true) (hr : s.resolve (bodyAt body 0) = .error r) :
    State.doChOpen p body h st s = (s, refusedReply r) := by
  have hl := linkOf_of_not_badOpen hgood
  have hr : s.resolve (takeBody body).localId = .error r := hr
  simp only [State.doChOpen, hgood, hl, hr, Bool.false_eq_true, if_false]

theorem doChOpen_refuses (hf : firstFailing (s.checks p 0x21#8 body st) = some r) :
    State.doChOpen p body h st s = (s, refusedReply r) := by
  simp only [State.checks, BitVec.toNat_ofNat, Nat.reducePow, Nat.reduceMod, List.cons_append, List.nil_append,
    firstFailing_cons, firstFailing_nil,
    decide_eq_true_eq, decide_eq_false_iff_not, reduceCtorEq, and_false, or_false] at hf
  simp only [toNat_getD] at hf
  obtain ⟨hb, rfl⟩ | ⟨hb, hf⟩ := hf
  · exact if_pos (badOpen_iff.2 hb)
  have hgood : ¬ (takeBody body).badOpen = true := fun e => hb (badOpen_iff.1 e)
  obtain ⟨⟨hid, hc⟩, rfl⟩ | ⟨hused, ⟨⟨hany, hc⟩, rfl⟩ | ⟨hfull, hf⟩⟩ := hf
  · exact doChOpen_of_unresolved hgood (resolve_of_inUse hid hc)
  · exact doChOpen_of_unresolved hgood (resolve_of_full (by omega) hc)
  · have hl := linkOf_of_not_badOpen hgood
    have hbyte : bodyAt body 0 ≤ 255 := by unfold bodyAt; omega
    obtain ⟨i, hr⟩ : ∃ i, s.resolve (takeBody body).localId = .ok i := resolve_of_free
      (fun hid => by_contra fun hc => hused ⟨hid, hc⟩)
      (fun hid => by_contra fun hc => hfull ⟨by simp only [takeBody] at hid; omega, fun j hj => hc ⟨j, hj⟩⟩)
    obtain ⟨hs, rfl⟩ | ⟨hs, hw, rfl⟩ := hf
    · simp only [State.doChOpen, hgood, hl, hr, Bool.false_eq_true, if_false, if_pos hs]
    · have hw : s.pool.unreserved < (takeBody body).rxWindow := hw
      simp only [State.doChOpen, hgood, hl, hr, Bool.false_eq_true, if_false, if_neg hs, if_pos hw]

/-! ## SEND -/

/-- The two readings of the freeing of a staged message agree (R93). -/
theorem freeStaged_eq_unstaged (s : State) (p : Slot) (st : Staging) : s.freeStaged p st = s.unstaged p st := rfl

/-- A SEND is refused by its rule's list of checks, the staging claim last (R109). -/
theorem sendCheck_refuses (hlen : body.length = h.len.toNat) (hst : st ≠ .refused .ok)
    (hf : firstFailing (s.checks p 0x30#8 body st) = some r) : s.sendCheck p h st body = .error r := by
  simp only [State.checks, BitVec.toNat_ofNat, Nat.reducePow, Nat.reduceMod, List.cons_append, List.nil_append,
    firstFailing_cons, decide_eq_true_eq, decide_eq_false_iff_not] at hf
  simp only [toNat_getD] at hf
  have hpay : payloadLength h = body.length - 3 := congrArg (· - 3) hlen.symm
  have hblocks : blocksOf (payloadLength h) = (body.length - 3 + 63) / 64 := by rw [hpay]; rfl
  have hmax : Config.maxMessage = 1024 := rfl
  rw [State.sendCheck, hblocks, hpay, hmax]
  obtain ⟨hb, rfl⟩ | ⟨hb, hf⟩ := hf
  · exact if_pos (by omega)
  rw [if_neg (by omega)]
  obtain ⟨ho, rfl⟩ | ⟨ho, hf⟩ := hf
  · rw [owned_of_not_owned (by omega) ho]
  rw [owned_of_owned (by omega) (by simpa using ho)]
  obtain ⟨hs, rfl⟩ | ⟨hs, ⟨hw, rfl⟩ | ⟨hw, ⟨hq, rfl⟩ | ⟨hq, hf⟩⟩⟩ := hf
  · exact if_pos hs
  · exact (if_neg hs).trans (if_pos hw)
  · exact (if_neg hs).trans ((if_neg hw).trans (if_pos hq))
  · cases st with
    | none => cases hf
    | granted n => cases hf
    | refused q =>
      cases hf
      have hne : q ≠ .ok := fun e => hst (congrArg Staging.refused e)
      exact (if_neg hs).trans ((if_neg hw).trans ((if_neg hq).trans (if_pos hne)))

theorem doSend_refuses (hlen : body.length = h.len.toNat) (hst : st ≠ .refused .ok)
    (hf : firstFailing (s.checks p 0x30#8 body st) = some r) :
    State.doSend p body h st s = (s.unstaged p st, refusedReply r) := by
  rw [State.doSend, sendCheck_refuses hlen hst hf, freeStaged_eq_unstaged]

end

/-! ## The request -/

/-- A request that passes the common checks, and whose command refuses it. -/
theorem request_refused {s u : State} {p : Slot} {h : ReqHeader} {st : Staging} {row : Byte → Bool} {body : List Byte}
    {act : Action} {r : Result} (w : s.Writing p h st) (hr : row h.code = true)
    (hc : commonCheck h body.length (decide ((s.port p).session = .attached)) = none)
    (ha : act h st s = (u, refusedReply r)) :
    s.request p row body act = .next (u.reply p h { result := r } body.length) := by
  rw [request_run w hr, hc, ha]
  rfl

/-- The common checks pass (R155): a known command of an accepted length, on an attached port or ATTACH. -/
theorem commonCheck_eq_none {h : ReqHeader} {n : Nat} {attached : Bool} {f : Nat → Bool} (hlen : n = h.len.toNat)
    (hf : acceptedLengths h.code = some f) (hacc : f h.len.toNat = true) (hat : h.code ≠ 0x01#8 → attached = true) :
    commonCheck h n attached = none := by
  obtain ⟨hk, hl⟩ := acceptsLength_eq hf h.len.toNat
  cases attached with
  | true => simp [commonCheck, hlen, hk, hl, hacc]
  | false =>
    have ha : h.code = 0x01#8 := by_contra fun e => Bool.false_ne_true (hat e)
    simpa [commonCheck, hlen, hk, hl, hacc] using ha

/-- Settles O28. -/
theorem commandChecksRefuse : Obligations.CommandChecksRefuse := by
  intro s p h st body f r w hlen hf hacc hat hst hr u
  have hc := commonCheck_eq_none (attached := decide ((s.port p).session = .attached)) hlen hf hacc
    fun e => decide_eq_true (hat e)
  obtain e | e | e | e | e | e | e | e | e | e | e | e | e | e := knownCode_cases (acceptsLength_eq hf 0).1 <;>
    simp only [u, e] at hr ⊢
  · exact request_refused (row := (· == 0x01#8)) w (beq_iff_eq.2 e) hc (doAttach_refuses hr)
  · cases hr
  · exact congrArg settled (request_refused (row := (· == 0x10#8)) w (beq_iff_eq.2 e) hc (doLinkStart_refuses hr))
  · exact congrArg settled (request_refused (row := (· == 0x11#8)) w (beq_iff_eq.2 e) hc (doLinkStop_refuses hr))
  · exact request_refused (row := (· == 0x12#8)) w (beq_iff_eq.2 e) hc (doLinkClaim_refuses hr)
  · exact request_refused (row := (· == 0x13#8)) w (beq_iff_eq.2 e) hc (doLinkQuery_refuses hr)
  · exact request_refused (row := (· == 0x20#8)) w (beq_iff_eq.2 e) hc (doChListen_refuses hr)
  · exact congrArg settled (request_refused (row := (· == 0x21#8)) w (beq_iff_eq.2 e) hc (doChOpen_refuses hr))
  · exact congrArg settled (request_refused (row := (· == 0x22#8)) w (beq_iff_eq.2 e) hc (doChClose_refuses hr))
  · exact congrArg settled (request_refused (row := (· == 0x23#8)) w (beq_iff_eq.2 e) hc (doChRelease_refuses hr))
  · exact request_refused (row := (· == 0x24#8)) w (beq_iff_eq.2 e) hc (doChQuery_refuses hr)
  · exact congrArg settled (request_refused (row := (· == 0x30#8)) w (beq_iff_eq.2 e) hc (doSend_refuses hlen hst hr))
  · exact congrArg settled (request_refused (row := (· == 0x31#8)) w (beq_iff_eq.2 e) hc (doRecv_refuses hr))
  · cases hr

end Sys2Proof.Machine
end

section
/-! SUPPORT. What the operations of the channel table leave of the link records, the teardown of a link as its engine sees it (R46), and
the changes of a link in the terms of the statements (R31, R39, R42, R44). -/

namespace Sys2Proof.Machine

/-! ## What the channel table leaves of a link record -/

/-- An entry without the notify flag of its message (R114). -/
def Entry.unnoted (e : Entry) : Entry :=
  match e.body with
  | .data m => { e with body := .data { m with notify := false } }
  | .ctl _ => e

/-- A link record without what the channel table changes of it: the control-ready list (R24) and the notify flags of the retransmission
list (R114). -/
def Link.core (k : Link) : Link := { k with ready := [], rtx := k.rtx.map Entry.unnoted }

@[simp] theorem unnoted_ns (e : Entry) : e.unnoted.ns = e.ns := by unfold Entry.unnoted; split <;> rfl

theorem unnoted_clearNotify (i : ChanId) (e : Entry) : (e.clearNotify i).unnoted = e.unnoted := by
  obtain ⟨ns, a, b, m | c⟩ := e
  · by_cases h : m.channel = i <;> simp [Entry.clearNotify, Entry.unnoted, h]
  · rfl

/-- Every link of `u` is as in `s`, but for its control-ready list and the notify flags of its retransmission list. -/
def SameCore (s u : State) : Prop := ∀ l, (u.link l).core = (s.link l).core

namespace SameCore
variable {s u : State} {i : ChanId} {l : LinkId}

theorem refl (s : State) : SameCore s s := fun _ => rfl

theorem trans {v : State} (h : SameCore s u) (h' : SameCore u v) : SameCore s v := fun l => (h' l).trans (h l)

theorem setLink {k : Link} (h : SameCore s u) (hk : k.core = (u.link l).core) : SameCore s (u.setLink l k) := by
  refine fun m => ?_
  rw [link_setLink_ite]
  split
  · rename_i e; subst e; exact hk.trans (h m)
  · exact h m

theorem setChan (h : SameCore s u) (c : Chan) : SameCore s (u.setChan i c) := h
theorem setPort (h : SameCore s u) (p : Slot) (x : HostPort) : SameCore s (u.setPort p x) := h
theorem setLine (h : SameCore s u) (x : LinePort) : SameCore s (u.setLine l x) := h
theorem setPool (h : SameCore s u) (x : Pool) : SameCore s (u.setPool x) := h

theorem setOwed (h : SameCore s u) (o : Owed) : SameCore s (u.setOwed i o) := SameCore.setLink (u := u.setChan i _) h rfl

theorem clearNotify (h : SameCore s u) : SameCore s (u.clearNotify i) := by
  refine h.setLink ?_
  simp [Link.core, Function.comp_def, unnoted_clearNotify]

theorem serve (h : SameCore s u) : SameCore s u.serve := by
  intro l
  obtain ⟨_, e, -⟩ := (serve_served u).links l
  rw [e]; exact h l

theorem raiseGrant (h : SameCore s u) (g : Nat) : SameCore s (u.raiseGrant i g) := by
  unfold State.raiseGrant State.oweCredit
  dsimp only
  split
  · exact h
  split
  · exact h
  · exact SameCore.setOwed (u := (u.setChan i _).setPool _) h _

theorem grant (h : SameCore s u) : SameCore s (u.grant i) := by
  have hg := h.raiseGrant (i := i) (min (u.chan i).want u.pool.unreserved)
  unfold State.grant
  dsimp only
  split
  · exact h
  split
  · exact hg.setPool _
  · exact hg

theorem endChan (h : SameCore s u) (r : Reason) : SameCore s (u.endChan i r) :=
  .serve (.setPort (.setChan (.clearNotify (.setPool (.setChan (.setOwed (.setPool h _) _) _) _)) _) _ _)

theorem abortChan (h : SameCore s u) : SameCore s (u.abortChan i) :=
  .serve (.setChan (.setOwed (.clearNotify (.setPool (.setChan (.setPool (.setPool h _) _) _) _)) _) _)

theorem freeChan (h : SameCore s u) : SameCore s (u.freeChan i) := .setChan (.setOwed h _) _

theorem freeAborted (h : SameCore s u) : SameCore s (u.freeAborted i) := .setPort h.freeChan _ _

theorem giveUp (h : SameCore s u) : SameCore s (u.giveUp i) := by
  unfold State.giveUp
  dsimp only
  split
  · exact h.freeChan
  · exact .serve (.freeChan (.setPool h _))
  · split
    · exact .serve (.freeChan (.setPool (.setChan h _) _))
    · exact h.abortChan
  all_goals first | exact h.abortChan | exact h

theorem enterOpen (h : SameCore s u) (w : Nat) : SameCore s (u.enterOpen i w) := .setPort (.setChan h _) _ _

theorem acceptOpen (h : SameCore s u) (src : ChanId) (w : Nat) : SameCore s (u.acceptOpen i src w) :=
  .setOwed (.enterOpen (.setChan (.setPool h _) _) w) _

theorem crossOpen (h : SameCore s u) (w : Nat) : SameCore s (u.crossOpen i w) := by
  unfold State.crossOpen
  dsimp only
  split
  · exact .setOwed (.enterOpen h w) _
  · exact .enterOpen h w

theorem closeRecord (h : SameCore s u) : SameCore s (u.closeRecord i) := by
  have hc : SameCore s ((u.setChan i { u.chan i with state := .closing, closeSent := false }).setCreditOwed
      (u.pool.creditOwed.filter (· != i))) := .setPool (.setChan h _) _
  unfold State.closeRecord
  dsimp only
  split
  · exact .setOwed hc _
  · exact hc

theorem openRecord (h : SameCore s u) (p : Slot) (b : TakeBody) : SameCore s (u.openRecord i p l b) :=
  .setOwed (.setPool (.setChan h _) _) _

theorem tearRecord (h : SameCore s u) (r : Reason) : SameCore s (u.tearRecord i r) := by
  unfold State.tearRecord
  split
  · exact h.endChan r
  · exact h.endChan r
  · exact h.endChan r
  · exact h.freeAborted
  all_goals exact h

theorem place (h : SameCore s u) (payload : List Byte) : SameCore s (u.place i payload) := by
  unfold State.place
  dsimp only
  split
  · exact .setPort (.setChan (.setPool h _) _) _ _
  · exact .setChan (.setPool h _) _

end SameCore

/-- The channel table's part of a teardown (R133) leaves every link but for control-ready lists and notify flags. -/
theorem tearChannels_core (s : State) (l : LinkId) (r : Reason) : SameCore s (s.tearChannels l r) := by
  refine List.foldlRecOn _ _ (SameCore.setPool (.refl s) _) fun u h i _ => ?_
  split
  · exact h.tearRecord r
  · exact h

theorem endSessionRecords_core (s : State) (p : Slot) : SameCore s (s.endSessionRecords p) := by
  refine List.foldlRecOn _ _ (SameCore.refl s) fun u h i _ => ?_
  split
  · exact h.giveUp
  · exact h

/-! ## Teardown (R46) -/

theorem torn_congr {k k' : Link} (h : k'.core = k.core) : k'.torn = k.torn := by
  cases k; cases k'
  simp only [Link.core, Link.mk.injEq] at h
  simp only [Link.torn, Link.stopTimers, Link.mk.injEq]
  tauto

/-- A teardown leaves every link as it is with the record of its own link torn, but for the ready lists and the notify flags. -/
theorem teardown_core (s : State) (l : LinkId) (r : Reason) :
    SameCore (s.setLink l (s.link l).torn) (s.teardown l r) := by
  have h := tearChannels_core s l r
  have torn := torn_congr (h l)
  unfold State.teardown
  generalize s.tearChannels l r = t at h torn
  refine .setLine (.serve fun m => ?_) _
  rw [link_setLink_ite, link_setLink_ite, freeTxMsgs_link, torn]
  split
  · rfl
  · exact h m

end Sys2Proof.Machine
end

section
/-! SUPPORT. The law of a link record across each change that the rules of chapters 2 and 3 make of it (Table 2-4, Table 3-4). -/

namespace Sys2Proof.Machine

namespace Link
variable {k : Link}

/-- No sequenced state stands (R46, R134). -/
structure Clear (k : Link) : Prop where
  rtx : k.rtx = []
  goBack : k.goBack = none
  poll : k.pollOutstanding = false
  ack : k.ackPending = false
  resend : k.resendSent = false
  sup : k.owedSup = {}
  answers : k.answers = []

theorem Ok.clear (h : k.Ok) (hs : k.state ≠ .up) : k.Clear := by
  obtain ⟨-, -, -, h1, h2, h3, h4, h5, h6, h7⟩ := h.down hs
  exact ⟨h1, h2, h3, h4, h5, h6, h7⟩

/-- The ranges of the parameters and of the agreed window (R28, R39). -/
structure Ranged (k : Link) : Prop where
  params : ∀ q, k.params = some q → q.inRange = true
  agreed : ∀ a, k.agreed = some a → a ≤ 16

theorem Ok.ranged (h : k.Ok) : k.Ranged := ⟨h.params, h.agreed⟩

/-- The law of a link outside UP. -/
theorem Clear.ok (c : k.Clear) (p : k.Ranged) (hs : k.state ≠ .up) (seq : k.vs = 0 ∧ k.va = 0 ∧ k.vr = 0)
    (opn : k.owedLink.opn = true → k.state = .starting) (close : k.owedLink.close = true → k.state = .stopping)
    (vacant : k.state = .down → k.controller = none) (retry : k.retry ≤ k.par.nRetry) (idle : k.tAck = none ∧ k.tIdle = none)
    (resp : k.tResp.isSome = true ↔ k.state = .starting ∨ k.state = .stopping) : k.Ok where
  params := p.params
  agreed := p.agreed
  down _ := ⟨seq.1, seq.2.1, seq.2.2, c.rtx, c.goBack, c.poll, c.ack, c.resend, c.sup, c.answers⟩
  window e := absurd e hs
  numbered n e h := by simp [c.rtx] at h
  pass g h := by simp [c.goBack] at h
  answers := by simp [c.answers]
  acks h := by simp [c.sup] at h
  gaps h := by simp [c.sup] at h
  owedOpen := opn
  owedClose := close
  vacant := vacant
  retry := retry
  resting h := ⟨idle.1, by
    have : ¬ k.tResp.isSome = true := by rw [resp]; rcases h with h | h | h <;> simp [h]
    simpa using this, idle.2⟩
  waiting h := ⟨idle.1, resp.mpr h, idle.2⟩
  ackTimer h := by simp [idle.1] at h
  respTimer e := absurd e hs
  idleTimer h := by simp [idle.2] at h
  idleRuns e := absurd e hs
  ackRuns h := by simp [c.ack] at h

/-- LINK-OPEN is owed in STARTING alone (R47). -/
theorem Ok.owes_no_open (h : k.Ok) (hs : k.state ≠ .starting) : k.owedLink.opn = false := by
  by_contra e; exact hs (h.owedOpen (by simpa using e))

/-- LINK-CLOSE is owed in STOPPING alone (R47). -/
theorem Ok.owes_no_close (h : k.Ok) (hs : k.state ≠ .stopping) : k.owedLink.close = false := by
  by_contra e; exact hs (h.owedClose (by simpa using e))

/-- What the channel table changes of a link record is not of its law. -/
theorem Ok.of_core {k' : Link} (h : k.Ok) (e : k'.core = k.core) : k'.Ok := by
  have ns : k'.rtx.map Entry.ns = k.rtx.map Entry.ns := by
    simpa [Link.core, Function.comp_def] using congrArg (fun x : Link => x.rtx.map Entry.ns) e
  have len : k'.rtx.length = k.rtx.length := by simpa using congrArg List.length ns
  have nil : k'.rtx = [] ↔ k.rtx = [] := by rw [← List.length_eq_zero_iff, len, List.length_eq_zero_iff]
  have e' : k' = { k with ready := k'.ready, rtx := k'.rtx } := by
    cases k; cases k'
    simp only [Link.core, Link.mk.injEq] at e ⊢
    tauto
  generalize k'.ready = q, k'.rtx = es at *
  subst e'
  exact { h with
    down := fun hs => by
      obtain ⟨h1, h2, h3, h4, h5⟩ := h.down hs
      exact ⟨h1, h2, h3, nil.mpr h4, h5⟩
    window := fun hs => by rw [show es.length = _ from len]; exact h.window hs
    numbered := fun n x hx => by
      have := congrArg (fun l => l[n]?) ns
      simp only [List.getElem?_map, hx, Option.map_some] at this
      obtain ⟨y, hy, e⟩ := Option.map_eq_some_iff.mp this.symm
      rw [← e]; exact h.numbered n y hy
    pass := fun g hg => by rw [show es.length = _ from len]; exact h.pass g hg
    respTimer := fun hs => by rw [h.respTimer hs]; exact or_congr_left (not_congr nil.symm) }

/-! ## Entering a state -/

/-- A link torn down or outside UP falls to DOWN or FAILED (R31, R42, R44). -/
theorem fell_ok (p : k.Ranged) (c : k.Clear) {st : LinkState} (r : Reason) {o : OwedLink} (hs : st = .down ∨ st = .failed)
    (ho : o.opn = false ∧ o.close = false) : (k.fell st r o).Ok := by
  refine Clear.ok ⟨c.rtx, c.goBack, c.poll, c.ack, c.resend, c.sup, c.answers⟩ ⟨p.params, p.agreed⟩ ?_ ⟨rfl, rfl, rfl⟩
    ?_ ?_ ?_ (Nat.zero_le _) ⟨rfl, rfl⟩ ?_
  · rcases hs with rfl | rfl <;> simp [Link.fell]
  · intro h; rw [show (k.fell st r o).owedLink = o from rfl, ho.1] at h; cases h
  · intro h; rw [show (k.fell st r o).owedLink = o from rfl, ho.2] at h; cases h
  · intro h; exact if_pos h
  · rcases hs with rfl | rfl <;> simp [Link.fell]

theorem par_ranged (p : k.Ranged) : k.par.windowOffer ≤ 16 := by
  unfold Link.par
  cases h : k.params with
  | none => decide
  | some q =>
    have := p.params q h
    simp [Params.inRange] at this
    simp only [Option.getD_some]; omega

/-- A link enters UP afresh with a window not above its own offer (R39). -/
theorem rose_ok (p : k.Ranged) (peer : Byte) {agreed : Nat} {o : OwedLink} (ha : agreed ≤ k.par.windowOffer)
    (ho : o.opn = false ∧ o.close = false) : (k.rose peer agreed o).Ok where
  params := p.params
  agreed a h := by cases h; exact ha.trans (par_ranged p)
  down h := absurd rfl h
  window _ := ⟨by simp [Link.rose], Nat.zero_le _⟩
  numbered n e h := by simp [Link.rose] at h
  pass g h := by cases h
  answers := List.nodup_nil
  acks h := by cases h
  gaps h := by cases h
  owedOpen h := by rw [show (k.rose peer agreed o).owedLink = o from rfl, ho.1] at h; cases h
  owedClose h := by rw [show (k.rose peer agreed o).owedLink = o from rfl, ho.2] at h; cases h
  vacant h := by cases h
  retry := Nat.zero_le _
  resting h := by simp [Link.rose] at h
  waiting h := by simp [Link.rose] at h
  ackTimer h := by cases h
  respTimer _ := by simp [Link.rose]
  idleTimer _ := rfl
  idleRuns _ _ h := by rw [show (k.rose peer agreed o).tIdle = _ from if_neg h]; rfl
  ackRuns h := by cases h

/-! ## Changes in UP -/

theorem idled_ok (h : k.Ok) : k.idled.Ok :=
  { h with
    resting := fun hs => by
      obtain ⟨h1, h2, h3⟩ := h.resting hs
      exact ⟨h1, h2, by simp [Link.idled, h3]⟩
    waiting := fun hs => by
      obtain ⟨h1, h2, h3⟩ := h.waiting hs
      exact ⟨h1, h2, by simp [Link.idled, h3]⟩
    idleTimer := fun hi => h.idleTimer (by
      by_contra hn
      simp [Link.idled, hn] at hi)
    idleRuns := fun hs hr hp => by
      have hi := h.idleRuns hs hr hp
      have hp : k.par.tIdle ≠ 0 := hp
      simp [Link.idled, hi, hp] }

/-- What is owed of link frames but LINK-OPEN and LINK-CLOSE is not of the law, nor is what has been sent of them. -/
theorem owedLink_ok (h : k.Ok) {o : OwedLink} (ho : o.opn = true → k.owedLink.opn = true) (hc : o.close = true → k.owedLink.close = true) :
    ({ k with owedLink := o } : Link).Ok :=
  { h with owedOpen := fun e => h.owedOpen (ho e), owedClose := fun e => h.owedClose (hc e) }

theorem removed_ok (h : k.Ok) (f : LinkFrameKind) : ({ k with owedLink := k.owedLink.remove f } : Link).Ok :=
  owedLink_ok h (by cases f <;> simp [OwedLink.remove]) (by cases f <;> simp [OwedLink.remove])

/-- The taking of a frame that carries nr (R54). -/
theorem stamp_ok (h : k.Ok) : k.stamp.Ok :=
  { h with
    down := fun hs => by
      obtain ⟨h1, h2, h3, h4, h5, h6, -, h8, h9, h10⟩ := h.down hs
      exact ⟨h1, h2, h3, h4, h5, h6, rfl, h8, by simp [Link.stamp, h9], h10⟩
    acks := fun e => by cases e
    resting := fun hs => ⟨rfl, (h.resting hs).2⟩
    waiting := fun hs => ⟨rfl, (h.waiting hs).2⟩
    ackTimer := fun e => by cases e
    ackRuns := fun e => by cases e }

/-- Members of the owed supervisory set change in UP; ACK and RESEND only leave it (R52). -/
theorem owedSup_ok (h : k.Ok) (hs : k.state = .up) {o : OwedSup} (ha : o.ack = k.owedSup.ack)
    (hr : o.resend = true → k.owedSup.resend = true) : ({ k with owedSup := o } : Link).Ok :=
  { h with
    down := fun e => absurd hs e
    acks := fun e => h.acks (ha ▸ e)
    gaps := fun e => h.gaps (hr e)
    ackRuns := fun e => (h.ackRuns e).imp_right fun x => ha ▸ x }

theorem answers_ok (h : k.Ok) (hs : k.state = .up) {q : List Answer} (hq : (q.map Answer.peerCh).Nodup) :
    ({ k with answers := q } : Link).Ok :=
  { h with down := fun e => absurd hs e, answers := hq }

/-- A new sequenced frame is taken while the window is open (R53, R79). -/
theorem sent_ok (h : k.Ok) (hs : k.state = .up) (hr : k.hasRoom) (dst src : ChanId) (b : EntryBody) : (k.sent dst src b).Ok := by
  obtain ⟨a, ha, lt⟩ := hr
  have a16 := h.agreed a ha
  obtain ⟨len, -⟩ := h.window hs
  have next : (k.vs + 1 - k.va).toNat = k.rtx.length + 1 := by bv_omega
  have stamped := stamp_ok h
  exact { stamped with
    down := fun e => absurd hs e
    window := fun _ => by
      refine ⟨?_, ?_⟩
      · rw [show (k.sent dst src b).vs - (k.sent dst src b).va = k.vs + 1 - k.va from rfl, next]
        exact List.length_append
      · simp only [Link.sent, List.length_append, List.length_singleton, ha, Option.getD_some]; omega
    numbered := fun n e hn => by
      simp only [Link.sent, List.getElem?_append] at hn
      split at hn
      · exact h.numbered n e hn
      · rename_i hl
        have : n = k.rtx.length := by
          by_contra hx
          rw [List.getElem?_eq_none (by simp; omega)] at hn; cases hn
        subst this
        simp only [Nat.sub_self, List.getElem?_cons_zero, Option.some.injEq] at hn
        rw [← hn]
        show k.vs = k.va + BitVec.ofNat 5 k.rtx.length
        rw [len, BitVec.ofNat_toNat, BitVec.setWidth_eq]; ring
    pass := fun g hg => by
      have := h.pass g hg
      simp only [Link.sent, List.length_append, List.length_singleton]; exact Nat.lt_succ_of_lt this
    resting := fun e => by rw [show (k.sent dst src b).state = .up from hs] at e; simp at e
    waiting := fun e => by rw [show (k.sent dst src b).state = .up from hs] at e; simp at e
    respTimer := fun _ => by
      by_cases e : k.rtx = []
      · simp [Link.sent, e]
      · simp [Link.sent, e, (h.respTimer hs).mpr (.inl e)]
    idleTimer := fun e => by
      by_cases en : k.rtx = []
      · simp [Link.sent, en] at e
      · simp only [Link.sent, en, if_false] at e ⊢; exact h.idleTimer e
    idleRuns := fun _ e => by
      by_cases en : k.rtx = []
      · simp [Link.sent, en] at e
      · simp only [Link.sent, en, if_false] at e ⊢; exact h.idleRuns hs e }

/-- T_idle runs only while nothing is unacknowledged and no poll is outstanding (R68). -/
theorem Ok.tIdle_none (h : k.Ok) (hs : k.state = .up) (hr : k.rtx ≠ [] ∨ k.pollOutstanding = true) : k.tIdle = none := by
  by_contra hn
  have := h.idleTimer (Option.isSome_iff_ne_none.mpr hn)
  have := (h.respTimer hs).mpr hr
  simp_all

/-! ### Acknowledgement (R57, R58) -/

/-- The number of entries that an nr acknowledges. -/
def ackCount (k : Link) (nr : Seq) : Nat := (nr - k.va).toNat

theorem acked_eq (k : Link) (nr : Seq) : k.acked nr = { k with
    va := nr, rtx := k.rtx.drop (k.ackCount nr), retry := 0, goBack := k.goBack.bind fun g => g.afterAck k.va k.vs nr
    tResp := if k.rtx.drop (k.ackCount nr) ≠ [] then some k.par.tResp else if k.pollOutstanding then k.tResp else none
    tIdle := if k.rtx.drop (k.ackCount nr) ≠ [] ∨ k.pollOutstanding = true then k.tIdle
      else if k.par.tIdle = 0 then none else some k.par.tIdle } := by
  unfold Link.acked
  dsimp only
  rw [← ackCount]
  cases k.rtx.drop (k.ackCount nr) with
  | nil =>
    by_cases hp : k.pollOutstanding = true
    · simp [hp]
    · simp [hp, Link.startIdle]; rfl
  | cons e q => simp [Link.startResp, Link.par]

/-- The pointer of a pass after an acknowledgement stands on an entry that is left (R58). -/
theorem afterAck_inside {g g' : GoBack} {va vs nr : Seq} (hg : (g.pointer - va).toNat < (vs - va).toNat)
    (hn : (nr - va).toNat ≤ (vs - va).toNat) (h : g.afterAck va vs nr = some g') :
    (g'.pointer - nr).toNat < (vs - va).toNat - (nr - va).toNat := by
  unfold GoBack.afterAck at h
  split at h
  · split at h
    · cases h
    · rename_i ne; cases h
      have : vs.toNat ≠ nr.toNat := fun e => ne (BitVec.eq_of_toNat_eq e.symm)
      simp only; bv_omega
  · cases h; bv_omega

theorem acked_ok (h : k.Ok) (hs : k.state = .up) {nr : Seq} (h0 : k.ackCount nr ≠ 0) (hn : k.nrValid nr = true) : (k.acked nr).Ok := by
  obtain ⟨len, room⟩ := h.window hs
  replace hn : (nr - k.va).toNat ≤ (k.vs - k.va).toNat := of_decide_eq_true hn
  have some_sent : k.rtx ≠ [] := by
    intro e; rw [e] at len; simp only [ackCount, List.length_nil] at *; omega
  have idle := h.tIdle_none hs (.inl some_sent)
  have left : (k.rtx.drop (k.ackCount nr)).length = (k.vs - nr).toNat := by
    rw [List.length_drop, ackCount, len]; bv_omega
  have numbers (n : Nat) : nr + BitVec.ofNat 5 n = k.va + BitVec.ofNat 5 (k.ackCount nr + n) := by
    rw [ackCount, BitVec.ofNat_add, BitVec.ofNat_toNat, BitVec.setWidth_eq]; ring
  rw [acked_eq]
  exact { h with
    down := fun e => absurd hs e
    window := fun _ => ⟨left, by
      have : (k.rtx.drop (k.ackCount nr)).length ≤ k.rtx.length := by rw [List.length_drop]; exact Nat.sub_le ..
      exact this.trans room⟩
    numbered := fun n e he => by
      rw [List.getElem?_drop] at he
      rw [h.numbered _ e he]; exact (numbers n).symm
    pass := fun g hg => by
      obtain ⟨g', hg', e⟩ := Option.bind_eq_some_iff.mp hg
      have := afterAck_inside (len ▸ h.pass g' hg') hn e
      rw [left]
      show (g.pointer - nr).toNat < _
      bv_omega
    retry := Nat.zero_le _
    resting := fun e => by simp [hs] at e
    waiting := fun e => by simp [hs] at e
    respTimer := fun _ => by
      dsimp only
      by_cases e : k.rtx.drop (k.ackCount nr) = []
      · by_cases hp : k.pollOutstanding = true
        · simp [e, hp, (h.respTimer hs).mpr (.inr hp)]
        · simp [e, hp]
      · simp [e]
    idleTimer := fun e => by
      dsimp only at e ⊢
      split at e
      · simp [idle] at e
      · rename_i hc; rw [not_or] at hc; simp [hc.1, hc.2]
    idleRuns := fun _ hr hp => by
      dsimp only at hr ⊢
      split_ifs at hr with h1 h2
      · have := (h.respTimer hs).mpr (.inr h2)
        rw [hr] at this; cases this
      · have hp : k.par.tIdle ≠ 0 := hp
        simp [h1, h2, hp] }

/-! ### Acceptance and discard (R59, R60) -/

theorem accepted_ok (h : k.Ok) (hs : k.state = .up) : k.accepted.Ok := by
  rw [accepted_eq]
  exact { h with
    down := fun e => absurd hs e
    acks := fun _ => rfl
    gaps := fun e => by cases e
    resting := fun e => by simp [hs] at e
    waiting := fun e => by simp [hs] at e
    ackTimer := fun _ => rfl
    ackRuns := fun _ => by
      by_cases e : k.ackPending = true
      · simpa [e] using h.ackRuns e
      · simp [e] }

theorem outOfSequence_eq (k : Link) : k.outOfSequence = { k with
    counters := { k.counters with outOfSequence := k.counters.outOfSequence + 1 }, resendSent := true
    owedSup := if k.resendSent then k.owedSup else { k.owedSup with resend := true } } := by
  unfold Link.outOfSequence
  cases h : k.resendSent
  · simp [Counters.bumpOutOfSequence]
  · simp only [if_true, Counters.bumpOutOfSequence, ← h]

theorem outOfSequence_ok (h : k.Ok) (hs : k.state = .up) : k.outOfSequence.Ok := by
  have ack : (if k.resendSent then k.owedSup else { k.owedSup with resend := true }).ack = k.owedSup.ack := by split <;> rfl
  rw [outOfSequence_eq]
  exact { h with
    down := fun e => absurd hs e
    acks := fun e => h.acks (ack ▸ e)
    gaps := fun _ => rfl
    ackRuns := fun e => (h.ackRuns e).imp_right fun x => ack.trans x }

/-! ### Go-back passes and polls (R63 to R70) -/

theorem startPass_ok (h : k.Ok) (hr : k.rtx ≠ []) : k.startPass.Ok := by
  have hs : k.state = .up := by by_contra e; exact hr (h.clear e).rtx
  exact { h with
    down := fun e => absurd hs e
    pass := fun g hg => by
      cases hg
      show (k.va - k.va).toNat < k.rtx.length
      rw [sub_self]
      exact List.length_pos_iff.mpr hr }

/-- T_resp starts while frames are unacknowledged (R63, R70). -/
theorem startResp_ok (h : k.Ok) (hs : k.state = .up) (hr : k.rtx ≠ [] ∨ k.pollOutstanding = true) : k.startResp.Ok :=
  { h with
    resting := fun e => by simp [Link.startResp, hs] at e
    waiting := fun e => by simp [Link.startResp, hs] at e
    respTimer := fun _ => iff_of_true rfl hr
    idleTimer := fun e => by
      rw [show k.startResp.tIdle = k.tIdle from rfl, h.tIdle_none hs hr] at e; cases e
    idleRuns := fun _ e => by cases e }

theorem takeResend_ok (h : k.Ok) (hs : k.state = .up) : k.takeResend.Ok := by
  unfold Link.takeResend
  split
  · exact h
  rename_i hr
  replace hr : k.rtx ≠ [] := by simpa using hr
  split
  · exact startResp_ok h hs (.inl hr)
  · exact startResp_ok (startPass_ok h hr) hs (.inl hr)

/-- An answered poll with nothing unacknowledged (R70). -/
theorem answered_idle_ok (h : k.Ok) (hs : k.state = .up) (hr : k.rtx = []) :
    ({ k with pollOutstanding := false, retry := 0, owedSup := { k.owedSup with poll := false }, tResp := none } : Link).startIdle.Ok :=
  { h with
    down := fun e => absurd hs e
    acks := h.acks
    gaps := h.gaps
    retry := Nat.zero_le _
    resting := fun e => by simp [Link.startIdle, hs] at e
    waiting := fun e => by simp [Link.startIdle, hs] at e
    respTimer := fun _ => by simp [Link.startIdle, hr]
    idleTimer := fun _ => rfl
    idleRuns := fun _ _ hp => by
      have hp : k.par.tIdle ≠ 0 := hp
      simp [Link.startIdle, Link.par] at hp ⊢; simp [hp]
    ackRuns := h.ackRuns }

/-- An answered poll with frames unacknowledged (R70). -/
theorem answered_pass_ok (h : k.Ok) (hs : k.state = .up) (hr : k.rtx ≠ []) :
    ({ k with pollOutstanding := false, retry := 0, owedSup := { k.owedSup with poll := false } } : Link).Ok :=
  { h with
    down := fun e => absurd hs e
    acks := h.acks
    gaps := h.gaps
    retry := Nat.zero_le _
    respTimer := fun _ => iff_of_true ((h.respTimer hs).mpr (.inl hr)) (.inl hr)
    ackRuns := h.ackRuns }

theorem takeAnswerFlag_ok (h : k.Ok) (hs : k.state = .up) : k.takeAnswerFlag.Ok := by
  unfold Link.takeAnswerFlag
  dsimp only
  split
  · split
    · rename_i hr; exact answered_idle_ok h hs (by simpa using hr)
    · rename_i hr
      replace hr : k.rtx ≠ [] := by simpa using hr
      exact startResp_ok (startPass_ok (answered_pass_ok h hs hr) hr) hs (.inl hr)
  · exact h

theorem takeStatusFlags_ok (h : k.Ok) (hs : k.state = .up) (poll answer : Bool) : (k.takeStatusFlags poll answer).Ok := by
  have hp : k.takePollFlag.Ok := owedSup_ok h hs rfl id
  cases poll <;> cases answer
  · exact h
  · exact takeAnswerFlag_ok h hs
  · exact hp
  · exact takeAnswerFlag_ok hp hs

/-- The pointer of a pass advances, and the pass ends at V(s) (R65). -/
theorem advanced_ok (h : k.Ok) : ({ k with goBack := k.goBack.bind fun g => g.advance k.vs } : Link).Ok :=
  { h with
    down := fun e => by
      obtain ⟨h1, h2, h3, h4, h5, h6⟩ := h.down e
      exact ⟨h1, h2, h3, h4, by simp [h5], h6⟩
    pass := fun g hg => by
      obtain ⟨g', hg', e⟩ := Option.bind_eq_some_iff.mp hg
      have inside := h.pass g' hg'
      have hs : k.state = .up := by by_contra hn; simp [(h.clear hn).goBack] at hg'
      obtain ⟨len, room⟩ := h.window hs
      unfold GoBack.advance at e
      split at e
      · cases e
      · rename_i hne; cases e
        show (g'.pointer + 1 - k.va).toNat < k.rtx.length
        rw [len] at inside ⊢
        have last : (g'.pointer - k.va).toNat + 1 ≠ (k.vs - k.va).toNat := fun x => hne (by bv_omega)
        have : (k.vs - k.va).toNat < 32 := (k.vs - k.va).isLt
        bv_omega }

/-! ### Timers (R67, R68, R71) -/

theorem ackExpired_ok (h : k.Ok) (ha : k.tAck.isSome = true) :
    ({ k with tAck := none, owedSup := { k.owedSup with ack := true } } : Link).Ok := by
  have pending := h.ackTimer ha
  have hs : k.state = .up := by by_contra e; simp [(h.clear e).ack] at pending
  exact { h with
    down := fun e => absurd hs e
    acks := fun _ => pending
    resting := fun e => by simp [hs] at e
    waiting := fun e => by simp [hs] at e
    ackTimer := fun e => by cases e
    ackRuns := fun _ => .inr rfl }

/-- A poll is owed, with T_resp started and T_idle stopped (R67, R68). -/
theorem polled_ok (h : k.Ok) (hs : k.state = .up) {n : Nat} (hn : n ≤ k.par.nRetry) {t : Option Nat} (ht : t = none) :
    ({ k with pollOutstanding := true, owedSup := { k.owedSup with poll := true }, retry := n, tResp := some k.par.tResp, tIdle := t } :
      Link).Ok := by
  subst ht
  exact { h with
    down := fun e => absurd hs e
    acks := h.acks
    gaps := h.gaps
    retry := hn
    resting := fun e => by simp [hs] at e
    waiting := fun e => by simp [hs] at e
    respTimer := fun _ => by simp
    idleTimer := fun e => by cases e
    idleRuns := fun _ e => by cases e
    ackRuns := h.ackRuns }

/-- T_resp expires in UP with retries left (R67). -/
theorem repolled_ok (h : k.Ok) (hs : k.state = .up) (hr : k.tResp.isSome = true) (hn : k.retry ≠ k.par.nRetry) : k.retried.owePoll.Ok :=
  polled_ok h hs (Nat.lt_of_le_of_ne h.retry hn) (h.tIdle_none hs ((h.respTimer hs).mp hr))

/-- T_idle expires: a poll is owed, and T_resp starts (R68). -/
theorem idleExpired_ok (h : k.Ok) (hi : k.tIdle.isSome = true) : ({ k.owePoll.startResp with tIdle := none } : Link).Ok := by
  have up : k.state = .up := by
    by_contra hs
    have resting : k.tIdle = none := by
      rcases hk : k.state with _ | _ | _ | _ | _ | _
      · exact (h.resting (.inl hk)).2.2
      · exact (h.resting (.inr (.inl hk))).2.2
      · exact (h.waiting (.inl hk)).2.2
      · exact absurd hk hs
      · exact (h.waiting (.inr hk)).2.2
      · exact (h.resting (.inr (.inr hk))).2.2
    simp [resting] at hi
  exact polled_ok h up h.retry rfl

/-- A retry outside UP (R36, R42). -/
theorem retried_ok (h : k.Ok) (hs : k.state = .starting ∨ k.state = .stopping) (hr : k.retry ≠ k.par.nRetry) {o : OwedLink}
    (ho : o.opn = true → k.state = .starting) (hc : o.close = true → k.state = .stopping) :
    ({ k.retried with owedLink := o } : Link).Ok := by
  have up : k.state ≠ .up := by rcases hs with e | e <;> simp [e]
  have retried : ({ k with retry := k.retry + 1, tResp := some k.par.tResp, owedLink := o } : Link).Ok :=
    { h with
      owedOpen := ho
      owedClose := hc
      retry := Nat.lt_of_le_of_ne h.retry hr
      resting := fun e => by rcases hs with x | x <;> simp [x] at e
      waiting := fun e => ⟨(h.waiting e).1, rfl, (h.waiting e).2.2⟩
      respTimer := fun e => absurd e up
      idleTimer := fun e => by simp [(h.waiting hs).2.2] at e
      idleRuns := fun e => absurd e up }
  exact retried

@[simp] theorem tickTimer_isSome (t : Option Nat) : (tickTimer t).isSome = t.isSome := by cases t <;> rfl
@[simp] theorem tickTimer_eq_none (t : Option Nat) : tickTimer t = none ↔ t = none := by cases t <;> simp [tickTimer]

/-- A tick starts and stops no timer (R26). -/
theorem tick_ok (h : k.Ok) : k.tick.Ok :=
  { h with
    resting := fun e => by simpa [Link.tick] using h.resting e
    waiting := fun e => by simpa [Link.tick] using h.waiting e
    ackTimer := fun e => h.ackTimer (by simpa [Link.tick] using e)
    respTimer := fun e => by simpa [Link.tick] using h.respTimer e
    idleTimer := fun e => by
      have := h.idleTimer (by simpa [Link.tick] using e)
      simpa [Link.tick] using this
    idleRuns := fun e hr hp => by
      have := h.idleRuns e (by simpa [Link.tick] using hr) hp
      simpa [Link.tick] using this
    ackRuns := fun e => by simpa [Link.tick] using h.ackRuns e }

/-! ### Starting -/

/-- A LINK-START taken in DOWN or FAILED (R30). -/
theorem started_ok (h : k.Ok) (hs : k.state = .down ∨ k.state = .failed) (p : Slot) {q : Params} (hq : q.inRange = true) :
    (k.started p q).Ok := by
  have up : k.state ≠ .up := by rcases hs with e | e <;> simp [e]
  obtain ⟨t1, t2, t3⟩ := h.resting (by rcases hs with e | e <;> simp [e])
  obtain ⟨v1, v2, v3, -⟩ := h.down up
  have c := h.clear up
  have opn := h.owes_no_open (by rcases hs with e | e <;> simp [e])
  have close := h.owes_no_close (by rcases hs with e | e <;> simp [e])
  have c' (k' : Link) (e : k'.rtx = k.rtx ∧ k'.goBack = k.goBack ∧ k'.pollOutstanding = k.pollOutstanding ∧ k'.ackPending = k.ackPending
      ∧ k'.resendSent = k.resendSent ∧ k'.owedSup = k.owedSup ∧ k'.answers = k.answers) : k'.Clear := by
    obtain ⟨e1, e2, e3, e4, e5, e6, e7⟩ := e
    exact ⟨e1 ▸ c.rtx, e2 ▸ c.goBack, e3 ▸ c.poll, e4 ▸ c.ack, e5 ▸ c.resend, e6 ▸ c.sup, e7 ▸ c.answers⟩
  unfold Link.started
  dsimp only
  split
  · refine Clear.ok (c' _ ⟨rfl, rfl, rfl, rfl, rfl, rfl, rfl⟩) ⟨fun _ e => by cases e; exact hq, h.agreed⟩ (fun e => by cases e)
      ⟨rfl, rfl, rfl⟩ (fun _ => rfl) (fun e => ?_) (fun e => by cases e) (Nat.zero_le _) ⟨t1, t3⟩ (iff_of_true rfl (.inl rfl))
    cases close.symm.trans e
  · refine Clear.ok (c' _ ⟨rfl, rfl, rfl, rfl, rfl, rfl, rfl⟩) ⟨fun _ e => by cases e; exact hq, h.agreed⟩ (fun e => by cases e)
      ⟨v1, v2, v3⟩ (fun e => ?_) (fun e => ?_) (fun e => by cases e) (Nat.zero_le _) ⟨rfl, rfl⟩ ?_
    · cases opn.symm.trans e
    · cases close.symm.trans e
    · simp [Link.stopTimers]

/-- A link torn down: no sequenced state, and no timer runs (R46). -/
structure Torn (k : Link) : Prop extends Clear k, Ranged k where
  timers : k.tAck = none ∧ k.tIdle = none

theorem Torn.of_core {k' : Link} (h : k.Ok) (e : k'.core = k.torn.core) : k'.Torn where
  rtx := by simpa [Link.core, Link.torn] using congrArg Link.rtx e
  goBack := (congrArg Link.goBack e :)
  poll := (congrArg Link.pollOutstanding e :)
  ack := (congrArg Link.ackPending e :)
  resend := (congrArg Link.resendSent e :)
  sup := (congrArg Link.owedSup e :)
  answers := (congrArg Link.answers e :)
  params q hq := h.params q ((congrArg Link.params e).symm.trans hq)
  agreed a ha := h.agreed a ((congrArg Link.agreed e).symm.trans ha)
  timers := ⟨(congrArg Link.tAck e :), (congrArg Link.tIdle e :)⟩

/-- A link torn down enters STARTING again (R45). -/
theorem Torn.restarted_ok (t : k.Torn) (e : Byte) (r : Option Reason) (n : Nat) {o : OwedLink} (ho : o.close = false) :
    ({ k with
      state := .starting, ownEpoch := e, vs := 0, va := 0, vr := 0, retry := 0, owedLink := o, tResp := some n, lastReason := r } :
      Link).Ok := by
  refine Clear.ok ⟨t.rtx, t.goBack, t.poll, t.ack, t.resend, t.sup, t.answers⟩ ⟨t.params, t.agreed⟩ (fun x => by cases x) ⟨rfl, rfl, rfl⟩
    (fun _ => rfl) (fun x => ?_) (fun x => by cases x) (Nat.zero_le _) t.timers (iff_of_true rfl (.inl rfl))
  cases ho.symm.trans x

/-- A link torn down enters STOPPING (R31). -/
theorem Torn.stopping_ok (t : k.Torn) (n : Nat) {o : OwedLink} (ho : o.opn = false) :
    ({ k with state := .stopping, vs := 0, va := 0, vr := 0, retry := 0, tResp := some n, owedLink := o } : Link).Ok := by
  refine Clear.ok ⟨t.rtx, t.goBack, t.poll, t.ack, t.resend, t.sup, t.answers⟩ ⟨t.params, t.agreed⟩ (fun x => by cases x) ⟨rfl, rfl, rfl⟩
    (fun x => ?_) (fun _ => rfl) (fun x => by cases x) (Nat.zero_le _) t.timers (iff_of_true rfl (.inr rfl))
  cases ho.symm.trans x

/-! ### The answer list (R80) -/

theorem pushAnswer_nodup (a : Answer) {q : List Answer} (h : (q.map Answer.peerCh).Nodup) :
    ((pushAnswer a q).map Answer.peerCh).Nodup := by
  unfold pushAnswer
  split
  · have same : (q.map fun b => if b.peerCh == a.peerCh then a else b).map Answer.peerCh = q.map Answer.peerCh := by
      rw [List.map_map]
      refine List.map_congr_left fun b _ => ?_
      by_cases e : b.peerCh = a.peerCh <;> simp [e]
    rw [same]; exact h
  · rename_i hn
    have new : a.peerCh ∉ q.map Answer.peerCh := by simpa using hn
    rw [List.map_append, List.map_singleton]
    exact List.nodup_append_comm.mp (List.nodup_cons.mpr ⟨new, h⟩)

end Link
end Sys2Proof.Machine
end

section
/-! SUPPORT. The sessions of a link: the changes of its record in the terms of the statements, and the commands, frames and expiries that
make them (chapter 2, R55, R56, R60, R67, R68, R71). -/

namespace Sys2Proof.Machine

/-! ## Entering the states -/

section Enter
variable (s : State) (l : LinkId) (r : Reason)

/-- A link falls after another change of its record. -/
theorem fell_setLink (k : Link) (st : LinkState) (o : OwedLink) : (s.setLink l k).fell l st r o =
    (s.setLink l (k.fell st r o)).postAll { kind := .linkDown, link := l, channel := 0, reason := some r, arg := 0 } := by
  simp only [State.fell, link_setLink, setLink_setLink]

/-- The owed link frames that a link falls with replace those it had. -/
theorem fell_setLink_owed (o o' : OwedLink) (st : LinkState) :
    (s.setLink l { s.link l with owedLink := o' }).fell l st r o = s.fell l st r o := by
  rw [fell_setLink]; rfl

theorem postLinkReason_eq (k : Link) (kind : EventKind) : (s.setLink l k).postLinkReason l kind r =
    (s.setLink l { k with lastReason := some r }).postAll { kind, link := l, channel := 0, reason := some r, arg := 0 } := by
  simp only [State.postLinkReason, link_setLink, setLink_setLink]; rfl

/-- Entering DOWN (R31, R34, R41, R42). -/
theorem enterDown_eq : s.enterDown l r = s.fell l .down r (s.link l).owedLink := postLinkReason_eq ..

/-- A stop completes (R42). -/
theorem completeStop_eq : s.completeStop l r = s.fell l .down r { (s.link l).owedLink with close := false } := by
  simp only [State.completeStop, enterDown_eq, link_setLink, fell_setLink_owed]

/-- Entering FAILED (R44). -/
theorem enterFailed_eq : s.enterFailed l r = s.fell l .failed r { (s.link l).owedLink with opn := false } := postLinkReason_eq ..

/-- Entering UP afresh (R39). -/
theorem enterUp_eq (k : Link) (peer : Byte) (agreed : Nat) : k.enterUp peer agreed = k.rose peer agreed { k.owedLink with opn := false } :=
  rfl

theorem establish_eq (peer : Byte) (agreed : Nat) : s.establish l peer agreed =
    (s.setLink l ((s.link l).rose peer agreed { (s.link l).owedLink with opn := false })).postAll
      { kind := .linkUp, link := l, channel := 0, reason := none, arg := agreed } := by
  rw [State.establish, enterUp_eq]; rfl

end Enter

/-! ## What a teardown leaves of its link -/

section Teardown
variable (s : State) (l : LinkId) (r : Reason)

/-- A teardown leaves what a session keeps of its link: state, parameters, epochs, window, numbers, retry count, owed link frames,
controller and last reason (R46). -/
theorem teardown_link : ((s.teardown l r).link l).core = (s.link l).torn.core := by
  simpa using teardown_core s l r l

theorem kept_of_core {k k' : Link} (h : k'.core = k.torn.core) :
    k'.state = k.state ∧ k'.owedLink = k.owedLink ∧ k'.par = k.par ∧ k'.ownEpoch = k.ownEpoch :=
  ⟨(congrArg Link.state h :), (congrArg Link.owedLink h :), (congrArg Link.par h :), (congrArg Link.ownEpoch h :)⟩

theorem teardown_owedLink : ((s.teardown l r).link l).owedLink = (s.link l).owedLink := (kept_of_core (teardown_link s l r)).2.1
theorem teardown_par : ((s.teardown l r).link l).par = (s.link l).par := (kept_of_core (teardown_link s l r)).2.2.1
theorem teardown_ownEpoch : ((s.teardown l r).link l).ownEpoch = (s.link l).ownEpoch := (kept_of_core (teardown_link s l r)).2.2.2

end Teardown

/-! ## Received frames -/

/-- The row of the oldest held frame takes it from its buffer (R146). -/
theorem takeHeld_run {s : State} {l : LinkId} {f : Frame} {act : Frame → Option (State → State)} {g : State → State}
    (h : s.Hears l f) (hg : act f = some g) : s.takeHeld l act = .next (g (s.heard l)).settle := by
  obtain ⟨rest, hf⟩ : ∃ rest, (s.line l).held = f :: rest := List.head?_eq_some_iff.mp h
  have heard : s.setLine l { s.line l with held := rest } = s.heard l := by rw [State.heard, hf]; rfl
  simp only [State.takeHeld, hf, hg, heard]

@[simp] theorem heard_link (s : State) (l m : LinkId) : (s.heard l).link m = s.link m := rfl

section Rows
variable {s : State} {l : LinkId}

theorem exec_linkOpen {sender : Byte} {window : Nat} (h : s.Hears l (.linkOpen sender window)) :
    exec (.linkOpen l) s = .next ((s.heard l).takeLinkOpen l sender window).settle :=
  takeHeld_run (g := fun t => t.takeLinkOpen l sender window) h rfl

theorem exec_linkAccept {echoed sender : Byte} {window : Nat} (h : s.Hears l (.linkAccept echoed sender window)) :
    exec (.linkAccept l) s = .next ((s.heard l).takeLinkAccept l echoed sender window).settle :=
  takeHeld_run (g := fun t => t.takeLinkAccept l echoed sender window) h rfl

theorem exec_linkClose (h : s.Hears l .linkClose) : exec (.linkClose l) s = .next ((s.heard l).takeLinkClose l).settle :=
  takeHeld_run (g := fun t => t.takeLinkClose l) h rfl

theorem exec_linkClosed (h : s.Hears l .linkClosed) : exec (.linkClosed l) s = .next ((s.heard l).takeLinkClosed l).settle :=
  takeHeld_run (g := fun t => t.takeLinkClosed l) h rfl

/-- What the channel table does with the content of a sequenced frame. -/
def State.deliver (s : State) (l : LinkId) (dst src : ChanId) : Content → State
  | .data payload => s.deliverData l dst src payload
  | .ctl (.opn w) => s.deliverOpen l dst src w
  | .ctl (.accept w) => s.deliverAccept l dst src w
  | .ctl (.refuse r) => s.deliverRefuse l dst src r
  | .ctl (.close abort) => s.deliverClose l dst src abort
  | .ctl .closed => s.deliverClosed l dst src
  | .ctl (.credit limit) => s.deliverCredit l dst src limit

/-- The row of a sequenced frame, whatever its content (R55). -/
theorem exec_sequenced {ns nr : Seq} {dst src : ChanId} {c : Content} (h : s.Hears l (.seq ns nr dst src c)) :
    exec (Frame.command (.seq ns nr dst src c) l) s =
      .next ((s.heard l).takeSequenced l ns nr fun t => t.deliver l dst src c).settle := by
  rcases c with payload | ⟨w⟩ | ⟨w⟩ | ⟨r⟩ | ⟨abort⟩ | _ | ⟨limit⟩
  all_goals exact takeHeld_run (g := fun t => t.takeSequenced l ns nr fun t => t.deliver l dst src _) h rfl

/-- The row of a frame that carries nr (R55). -/
theorem exec_withNr {f : Frame} {nr : Seq} (h : s.Hears l f) (hn : f.nr = some nr) :
    ∃ act, exec (f.command l) s = .next ((s.heard l).withNr l nr act).settle := by
  cases f with
  | linkOpen _ _ | linkAccept _ _ _ | linkClose | linkClosed => cases hn
  | status n poll answer => cases hn; exact ⟨_, takeHeld_run (g := fun t => t.withNr l nr _) h rfl⟩
  | resend n => cases hn; exact ⟨_, takeHeld_run (g := fun t => t.withNr l nr _) h rfl⟩
  | seq ns n dst src c => cases hn; exact ⟨_, exec_sequenced h⟩

end Rows

/-! ## LINK-OPEN and LINK-ACCEPT (R37 to R40) -/

/-- A LINK-OPEN brings a waiting link UP and owes LINK-ACCEPT (R37, R39). -/
theorem takeLinkOpen_rises {s : State} {l : LinkId} (sender : Byte) (window : Nat)
    (hs : (s.link l).state = .listening ∨ (s.link l).state = .starting) : s.takeLinkOpen l sender window =
      (s.setLink l ((s.link l).rose sender (min (s.link l).par.windowOffer window)
        { (s.link l).owedLink with opn := false, accept := true })).postAll
        { kind := .linkUp, link := l, channel := 0, reason := none, arg := min (s.link l).par.windowOffer window } := by
  have e : s.takeLinkOpen l sender window = (s.establish l sender (min (s.link l).par.windowOffer window)).setLink l
      ((s.establish l sender (min (s.link l).par.windowOffer window)).link l).oweAccept := by
    unfold State.takeLinkOpen; rcases hs with h | h <;> simp only [h]
  rw [e, establish_eq, postAll_setLink]
  simp only [postAll_link, link_setLink, setLink_setLink]
  rfl

/-- A LINK-OPEN in UP with another epoch is a peer restart (R40). -/
theorem openInUp_restarts {s : State} {l : LinkId} {sender : Byte} (window : Nat) (h : (s.link l).peerEpoch ≠ some sender) :
    s.openInUp l sender window = ((s.teardown l .peerRestart).setLink l
      { ((s.teardown l .peerRestart).link l).rose sender (min (s.link l).par.windowOffer window)
          { (s.link l).owedLink with opn := false, accept := true } with lastReason := some .peerRestart }).postAll
        { kind := .linkReset, link := l, channel := 0, reason := some .peerRestart, arg := 0 } := by
  have par := teardown_par s l .peerRestart
  have owed := teardown_owedLink s l .peerRestart
  rw [State.openInUp, if_neg h]
  generalize s.teardown l .peerRestart = t at par owed
  simp only [postLinkReason_eq, enterUp_eq, par, owed]
  rfl

/-- Settles O40. -/
theorem linkOpenAndAcceptBringTheLinkUp : Obligations.LinkOpenAndAcceptBringTheLinkUp := by
  intro s l sender window
  refine ⟨fun h => ⟨fun hs => ?_, fun hs hp => ?_, fun hs hp => ?_⟩, fun echoed h hs => ⟨fun he => ?_, fun he => ?_⟩⟩
  · rw [exec_linkOpen h, takeLinkOpen_rises (s := s.heard l) sender window hs]; rfl
  · have taken : (s.heard l).takeLinkOpen l sender window = (s.heard l).setLink l (s.link l).touchIdle.oweAccept := by
      simp only [State.takeLinkOpen, heard_link, hs]; exact if_pos hp
    rw [exec_linkOpen h, taken, touchIdle_eq]; rfl
  · have taken : (s.heard l).takeLinkOpen l sender window = (s.heard l).openInUp l sender window := by
      simp only [State.takeLinkOpen, heard_link, hs]
    rw [exec_linkOpen h, taken, openInUp_restarts (s := s.heard l) window hp]; rfl
  · have taken : (s.heard l).takeLinkAccept l echoed sender window =
        (s.heard l).establish l sender (min (s.link l).par.windowOffer window) := by
      simp only [State.takeLinkAccept, heard_link, hs]; exact if_pos he
    rw [exec_linkAccept h, taken, establish_eq, heard_link]
  · have taken : (s.heard l).takeLinkAccept l echoed sender window = s.heard l := by
      simp only [State.takeLinkAccept, heard_link, hs]; exact if_neg he
    rw [exec_linkAccept h, taken]

/-! ## LINK-CLOSE and LINK-CLOSED (R41, R42) -/

section Close
variable {s : State} {l : LinkId}

theorem takeLinkClose_up (hs : (s.link l).state = .up) :
    s.takeLinkClose l = (s.teardown l .peerStopped).fell l .down .peerStopped { (s.link l).owedLink with closed := true } := by
  have e : s.takeLinkClose l = ((s.teardown l .peerStopped).setLink l ((s.teardown l .peerStopped).link l).oweClosed).enterDown l
      .peerStopped := by simp only [State.takeLinkClose, hs]
  rw [e, enterDown_eq, link_setLink, Link.oweClosed, fell_setLink_owed, teardown_owedLink]

theorem takeLinkClose_stopping (hs : (s.link l).state = .stopping) :
    s.takeLinkClose l = s.fell l .down .stopped { (s.link l).owedLink with closed := true, close := false } := by
  have e : s.takeLinkClose l = (s.setLink l (s.link l).oweClosed).completeStop l .stopped := by simp only [State.takeLinkClose, hs]
  rw [e, completeStop_eq, link_setLink, Link.oweClosed, fell_setLink_owed]

theorem takeLinkClose_elsewhere (hs : (s.link l).state = .down ∨ (s.link l).state = .listening ∨ (s.link l).state = .starting
    ∨ (s.link l).state = .failed) : s.takeLinkClose l = s.setLink l { s.link l with owedLink := { (s.link l).owedLink with closed := true } } := by
  have e : s.takeLinkClose l = s.setLink l (s.link l).oweClosed := by
    unfold State.takeLinkClose; rcases hs with h | h | h | h <;> simp only [h]
  exact e

end Close

/-- Settles O41. -/
theorem linkCloseAndClosedBringTheLinkDown : Obligations.LinkCloseAndClosedBringTheLinkDown := by
  intro s l
  refine ⟨fun h => ⟨fun hs => ?_, fun hs => ?_, fun hs => ?_⟩, fun h hs => ?_⟩
  · rw [exec_linkClose h, takeLinkClose_up (s := s.heard l) hs]; rfl
  · rw [exec_linkClose h, takeLinkClose_stopping (s := s.heard l) hs]; rfl
  · rw [exec_linkClose h, takeLinkClose_elsewhere (s := s.heard l) hs]; rfl
  · have taken : (s.heard l).takeLinkClosed l = (s.heard l).completeStop l .stopped := by
      simp only [State.takeLinkClosed, heard_link, hs]
    rw [exec_linkClosed h, taken, completeStop_eq]; rfl

/-! ## Discarded frames (Table 2-5) -/

theorem withNr_outside {s : State} {l : LinkId} (hs : (s.link l).state ≠ .up) (nr : Seq) (act : State → State) :
    s.withNr l nr act = s := if_pos hs

/-- Settles O42. -/
theorem framesOutsideTheirStatesAreDiscarded : Obligations.FramesOutsideTheirStatesAreDiscarded := by
  intro s l f h
  refine ⟨fun hn hs => ?_, fun e w hf hs => ?_, fun a e w hf h1 h2 => ?_, fun a e w hf hs => ?_, fun hf h1 h2 => ?_, fun hf hs => ?_⟩
  · obtain ⟨nr, hn⟩ := Option.ne_none_iff_exists'.mp hn
    obtain ⟨act, e⟩ := exec_withNr h hn
    rw [e, withNr_outside (s := s.heard l) hs]
  · subst hf
    have taken : (s.heard l).takeLinkOpen l e w = s.heard l := by
      unfold State.takeLinkOpen; rcases hs with hs | hs | hs <;> simp only [heard_link, hs]
    exact (exec_linkOpen h).trans (by rw [taken])
  · subst hf
    have taken : (s.heard l).takeLinkAccept l a e w = s.heard l := by
      unfold State.takeLinkAccept; dsimp only [heard_link]; split <;> trivial
    exact (exec_linkAccept h).trans (by rw [taken])
  · subst hf
    have taken : (s.heard l).takeLinkAccept l a e w = (s.heard l).setLink l (s.link l).touchIdle := by
      simp only [State.takeLinkAccept, heard_link, hs]; rfl
    exact (exec_linkAccept h).trans (by rw [taken, touchIdle_eq])
  · subst hf
    have taken : (s.heard l).takeLinkClosed l = s.heard l := by
      unfold State.takeLinkClosed; dsimp only [heard_link]; split <;> trivial
    exact (exec_linkClosed h).trans (by rw [taken])
  · subst hf
    have taken : (s.heard l).takeLinkClosed l = (s.heard l).setLink l (s.link l).touchIdle := by
      simp only [State.takeLinkClosed, heard_link, hs]; rfl
    exact (exec_linkClosed h).trans (by rw [taken, touchIdle_eq])

/-! ## The checks of nr and ns (R55, R56, R60) -/

section Numbers
variable {s : State} {l : LinkId} {nr : Seq}

/-- In UP a frame with a valid nr is taken after its nr (R55, R57). -/
theorem withNr_valid (hs : (s.link l).state = .up) (hn : (nr - (s.link l).va).toNat ≤ ((s.link l).vs - (s.link l).va).toNat)
    (act : State → State) : s.withNr l nr act = act ((s.setLink l (s.link l).idled).acknowledge l nr) := by
  have valid : (s.link l).idled.nrValid nr = true := decide_eq_true hn
  simp only [State.withNr, hs, ne_eq, not_true_eq_false, if_false, touchIdle_eq, link_setLink, valid, if_true]

/-- In UP a frame with an invalid nr resets the link (R56). -/
theorem withNr_invalid (hs : (s.link l).state = .up) (hn : ((s.link l).vs - (s.link l).va).toNat < (nr - (s.link l).va).toNat)
    (act : State → State) : s.withNr l nr act = (s.setLink l (s.link l).idled).protocolReset l := by
  have invalid : (s.link l).idled.nrValid nr = false := decide_eq_false (Nat.not_le_of_lt hn)
  simp only [State.withNr, hs, ne_eq, not_true_eq_false, if_false, touchIdle_eq, link_setLink, invalid, Bool.false_eq_true]

/-- A protocol reset (R45). -/
theorem protocolReset_eq (s : State) (l : LinkId) : s.protocolReset l =
    ((s.teardown l .protocolError).setLink l { (s.teardown l .protocolError).link l with
      state := .starting, ownEpoch := nextEpoch (s.link l).ownEpoch, vs := 0, va := 0, vr := 0, retry := 0,
      owedLink := { (s.link l).owedLink with opn := true }, tResp := some (s.link l).par.tResp, lastReason := some .protocolError }).postAll
    { kind := .linkReset, link := l, channel := 0, reason := some .protocolError, arg := 0 } := by
  have par := teardown_par s l .protocolError
  have owed := teardown_owedLink s l .protocolError
  have epoch := teardown_ownEpoch s l .protocolError
  unfold State.protocolReset
  generalize s.teardown l .protocolError = t at par owed epoch
  simp only [postLinkReason_eq, ← par, ← owed, ← epoch]
  rfl

end Numbers

/-- Settles O43. -/
theorem numbersAreChecked : Obligations.NumbersAreChecked := by
  intro s l f nr h hf hs
  refine ⟨fun hn => ?_, fun ns dst src c hc hn hne => ?_⟩
  · obtain ⟨act, e⟩ := exec_withNr h hf
    rw [e, withNr_invalid (s := s.heard l) hs hn, protocolReset_eq, link_setLink]
    rfl
  · subst hc
    cases hf
    have vr : ns ≠ ((s.afterNr l nr).link l).vr := by
      rw [State.afterNr, acknowledge_vr, link_setLink]; exact hne
    rw [exec_sequenced h, State.takeSequenced, withNr_valid (s := s.heard l) hs hn]
    dsimp only [heard_link]
    rw [← State.afterNr, if_neg vr, Link.outOfSequence_eq]

end Sys2Proof.Machine
end

section
/-! SUPPORT. The commands of a link (R28 to R32), the expiries of its timers (R36, R42, R67, R68, R71) and the frames that make no entry
(R47, R62, R65, R77, R79). -/

namespace Sys2Proof.Machine

/-! ## LINK-START (R28, R30) -/

/-- A byte of the body of a LINK-START. -/
theorem bodyAt_byteOf {body : List Byte} {k n : Nat} (h : body.getD k 0#8 = byteOf n) (hn : n < 256) : bodyAt body k = n := by
  rw [bodyAt, h, byteOf_eq, BitVec.toNat_ofNat, Nat.mod_eq_of_lt hn]

/-- A two-byte field of the body of a LINK-START. -/
theorem bodyAt2_byteOf {body : List Byte} {k n : Nat} (h1 : body.getD k 0#8 = byteOf (n / 256)) (h2 : body.getD (k + 1) 0#8 = byteOf n)
    (hn : n < 65536) : bodyAt2 body k = n := by
  rw [bodyAt2, h1, h2, fromBe16_be16 hn]

/-- The byte of a start mode (Table 10-9). -/
def modeByte : StartMode → Byte
  | .active => 0#8
  | .passive => 1#8

theorem modeOf_modeByte (m : StartMode) : modeOf (modeByte m).toNat = m := by cases m <;> rfl

theorem modeByte_le (m : StartMode) : (modeByte m).toNat ≤ 1 := by cases m <;> decide

/-- A LINK-START body holds parameters in the ranges of Table 2-3, and names its link (R28). -/
structure StartsWith (body : List Byte) (l : LinkId) (q : Params) : Prop where
  link : bodyAt body 0 = l.val
  mode : bodyAt body 1 ≤ 1
  params : startParams body = q
  range : q.inRange = true

theorem link_byte (l : LinkId) : l.val < 256 := l.isLt.trans (by decide)

/-- The short form stands for the defaults of Table 2-3. -/
theorem startsWith_short (l : LinkId) (m : StartMode) : StartsWith [byteOf l.val, modeByte m] l (Params.defaults m) where
  link := bodyAt_byteOf rfl (link_byte l)
  mode := modeByte_le m
  params := by
    show Params.defaults (modeOf (modeByte m).toNat) = _
    rw [modeOf_modeByte]
  range := by cases m <;> decide

/-- The full form gives every parameter. -/
theorem startsWith_full (l : LinkId) {q : Params} (h : q.inRange = true) :
    StartsWith [byteOf l.val, modeByte q.mode, byteOf q.windowOffer, byteOf q.rateCode, byteOf q.tAck, byteOf (q.tResp / 256), byteOf q.tResp,
      byteOf (q.tIdle / 256), byteOf q.tIdle, byteOf q.nRetry] l q where
  link := bodyAt_byteOf rfl (link_byte l)
  mode := modeByte_le q.mode
  params := by
    obtain ⟨h1, h2, h3, h4, h5, h6, h7, h8, h9, h10⟩ := of_decide_eq_true h
    refine (if_pos rfl).trans ?_
    rw [bodyAt_byteOf (k := 2) (n := q.windowOffer) rfl (by omega), bodyAt_byteOf (k := 3) (n := q.rateCode) rfl (by omega),
      bodyAt_byteOf (k := 4) (n := q.tAck) rfl (by omega), bodyAt2_byteOf (k := 5) (n := q.tResp) rfl rfl (by omega),
      bodyAt2_byteOf (k := 7) (n := q.tIdle) rfl rfl (by omega), bodyAt_byteOf (k := 9) (n := q.nRetry) rfl (by omega)]
    show { q with mode := modeOf (modeByte q.mode).toNat } = q
    rw [modeOf_modeByte]
  range := h

/-- A LINK-START that passes its checks (R28, R30). -/
theorem doLinkStart_taken {s : State} {p : Slot} {body : List Byte} {l : LinkId} {q : Params} (h : StartsWith body l q)
    (hs : (s.link l).state = .down ∨ (s.link l).state = .failed ∧ ((s.link l).controller = none ∨ (s.link l).controller = some p))
    (hd : ReqHeader) (st : Staging) :
    State.doLinkStart p body hd st s = (s.startLink p l q, okReply [nextEpoch (s.link l).ownEpoch]) := by
  have good : ¬ startBadArg body = true := by
    have := l.isLt
    rw [startBadArg_iff, h.params, h.range, h.link]
    have := h.mode
    simp; omega
  rw [State.doLinkStart, if_neg good, h.link, linkOf_val, h.params]
  rcases hs with e | ⟨e, hc⟩
  · simp only [e]
  · simp only [e]; exact if_pos hc

/-- Settles O32. -/
theorem linkStartBeginsASession : Obligations.LinkStartBeginsASession := by
  intro s p h st body l q w hb hs
  have starts : StartsWith body l q := by
    rcases hb with ⟨rfl, hq⟩ | ⟨rfl, hq⟩
    · rw [hq]
      cases q.mode
      · exact startsWith_short l .active
      · exact startsWith_short l .passive
    · have range : q.inRange = true := by simp only [Params.inRange, decide_eq_true_eq]; omega
      have full := startsWith_full l range
      obtain ⟨_ | _, _⟩ := q
      · exact full
      · exact full
  have len : acceptsLength 0x10#8 body.length = true := by rcases hb with ⟨rfl, -⟩ | ⟨rfl, -⟩ <;> rfl
  have run : exec (.linkStart p body) s =
      .next ((s.startLink p l q).reply p h (okReply [nextEpoch (s.link l).ownEpoch]) body.length).settle :=
    congrArg settled (request_answers (row := (· == 0x10#8)) w rfl rfl len (doLinkStart_taken starts hs h st))
  refine run.trans ?_
  obtain ⟨_ | _, _⟩ := q
  · rfl
  · rfl

/-! ## LINK-STOP and LINK-CLAIM (R31, R32) -/

section Stop
variable {s : State} {l : LinkId}

theorem stopLink_falls (hs : (s.link l).state = .listening ∨ (s.link l).state = .failed) :
    s.stopLink l = s.fell l .down .stopped (s.link l).owedLink := by
  have e : s.stopLink l = s.enterDown l .stopped := by unfold State.stopLink; rcases hs with h | h <;> simp only [h]
  rw [e, enterDown_eq]

theorem stopLink_starting (hs : (s.link l).state = .starting) :
    s.stopLink l = s.fell l .down .stopped { (s.link l).owedLink with opn := false } := by
  have e : s.stopLink l = (s.setLink l { s.link l with owedLink := { (s.link l).owedLink with opn := false } }).enterDown l .stopped := by
    unfold State.stopLink; split <;> simp_all
  rw [e, enterDown_eq, link_setLink, fell_setLink_owed]

theorem stopLink_up (hs : (s.link l).state = .up) : s.stopLink l = (s.teardown l .stopped).setLink l
    { (s.teardown l .stopped).link l with
      state := .stopping, vs := 0, va := 0, vr := 0, retry := 0, tResp := some ((s.teardown l .stopped).link l).par.tResp
      owedLink := { ((s.teardown l .stopped).link l).owedLink with close := true } } := by
  simp only [State.stopLink, hs]
  generalize s.teardown l .stopped = t
  rfl

/-- A LINK-STOP of the controller is taken (R31). -/
theorem exec_linkStop {p : Slot} {h : ReqHeader} {st : Staging} {b : Byte} (w : s.Requests p 0x11#8 [b] h st) (hb : b.toNat = l.val)
    (hc : (s.link l).controller = some p) (hs : (s.link l).state ≠ .down) (hp : (s.link l).state ≠ .stopping) :
    exec (.linkStop p [b]) s = .next ((s.stopLink l).reply p h (okReply []) 1).settle := by
  have link : linkOf (bodyAt [b] 0) = some l := (congrArg linkOf hb).trans (linkOf_val l)
  have taken : State.doLinkStop p [b] h st s = (s.stopLink l, okReply []) := by
    simp only [State.doLinkStop, link, hs, hp, or_self, if_false, hc, ne_eq, not_true_eq_false]
  exact congrArg settled (request_answers (row := (· == 0x11#8)) w rfl rfl rfl taken)

end Stop

/-- Settles O33. -/
theorem linkStopEndsTheSession : Obligations.LinkStopEndsTheSession := by
  intro s p h st b l w hb hc
  refine ⟨fun hs => ?_, fun hs => ?_, fun hs => ?_⟩
  · rw [← stopLink_falls hs]
    exact exec_linkStop w hb hc (by rcases hs with e | e <;> simp [e]) (by rcases hs with e | e <;> simp [e])
  · rw [← stopLink_starting hs]
    exact exec_linkStop w hb hc (by simp [hs]) (by simp [hs])
  · dsimp only
    rw [← stopLink_up hs]
    exact exec_linkStop w hb hc (by simp [hs]) (by simp [hs])

/-- A LINK-CLAIM is answered (R32). -/
theorem exec_linkClaim {s u : State} {p : Slot} {h : ReqHeader} {st : Staging} {b : Byte} {r : Reply}
    (w : s.Requests p 0x12#8 [b] h st) (ha : State.doLinkClaim p [b] h st s = (u, r)) :
    exec (.linkClaim p [b]) s = .next (u.reply p h r 1) :=
  request_answers (row := (· == 0x12#8)) w rfl rfl rfl ha

/-- Settles O34. -/
theorem linkClaimTakesAVacantRole : Obligations.LinkClaimTakesAVacantRole := by
  intro s p h st b w
  refine ⟨fun hb => exec_linkClaim w ?_, fun l hb => ?_⟩
  · have none : linkOf (bodyAt [b] 0) = none := linkOf_eq_none hb
    simp only [State.doLinkClaim, none]; rfl
  · have link : linkOf (bodyAt [b] 0) = some l := (congrArg linkOf hb).trans (linkOf_val l)
    refine ⟨fun hs => exec_linkClaim w ?_, fun hs hc => exec_linkClaim w ?_, fun hs hc => exec_linkClaim w ?_,
      fun q hq hs hc => exec_linkClaim w ?_⟩
    · simp only [State.doLinkClaim, link, hs, if_true, refusedReply]
    · simp only [State.doLinkClaim, link, hs, if_false, hc, okReply]
    · simp only [State.doLinkClaim, link, hs, if_false, hc, if_true, okReply]
    · simp only [State.doLinkClaim, link, hs, if_false, hc, hq, refusedReply]

/-! ## The expiries of the timers -/

section Expiries
variable {s : State} {l : LinkId}

theorem due_iff {t : Option Nat} : due t = true ↔ t = some 0 := beq_iff_eq

theorem exec_tAckExpiry (h : (s.link l).tAck = some 0) : exec (.tAckExpiry l) s =
    .next (s.setLink l { s.link l with tAck := none, owedSup := { (s.link l).owedSup with ack := true } }).settle :=
  if_pos (due_iff.mpr h)

theorem exec_tRespExpiry (h : (s.link l).tResp = some 0) : exec (.tRespExpiry l) s = .next (s.respExpired l).settle :=
  if_pos (due_iff.mpr h)

theorem exec_tIdleExpiry (h : (s.link l).tIdle = some 0) : exec (.tIdleExpiry l) s =
    .next (s.setLink l { (s.link l).owePoll.startResp with tIdle := none }).settle :=
  if_pos (due_iff.mpr h)

/-- T_resp expires with retries left (R36, R42, R67). -/
theorem respExpired_retries (hr : (s.link l).retry ≠ (s.link l).par.nRetry) :
    ((s.link l).state = .starting →
      s.respExpired l = s.setLink l { (s.link l).retried with owedLink := { (s.link l).owedLink with opn := true } })
    ∧ ((s.link l).state = .stopping →
      s.respExpired l = s.setLink l { (s.link l).retried with owedLink := { (s.link l).owedLink with close := true } })
    ∧ ((s.link l).state = .up → s.respExpired l = s.setLink l (s.link l).retried.owePoll) := by
  refine ⟨fun hs => ?_, fun hs => ?_, fun hs => ?_⟩ <;> simp only [State.respExpired, hs, hr, if_false]

/-- T_resp expires with the retry count at N_retry (R36, R42, R67). -/
theorem respExpired_spent (hr : (s.link l).retry = (s.link l).par.nRetry) :
    ((s.link l).state = .starting → s.respExpired l = s.fell l .failed .retryExhausted { (s.link l).owedLink with opn := false })
    ∧ ((s.link l).state = .stopping → s.respExpired l = s.fell l .down .stopped { (s.link l).owedLink with close := false })
    ∧ ((s.link l).state = .up → s.respExpired l =
      (s.teardown l .retryExhausted).fell l .failed .retryExhausted { (s.link l).owedLink with opn := false }) := by
  refine ⟨fun hs => ?_, fun hs => ?_, fun hs => ?_⟩ <;> simp only [State.respExpired, hs, hr, if_true]
  · exact enterFailed_eq ..
  · exact completeStop_eq ..
  · rw [enterFailed_eq, teardown_owedLink]

end Expiries

/-- Settles O51. -/
theorem timerExpiriesAct : Obligations.TimerExpiriesAct := by
  intro s l
  refine ⟨fun _ h => exec_tAckExpiry h, fun _ h => exec_tIdleExpiry h, fun h hr => ?_, fun h hr => ?_, fun h => ?_, fun h => ?_, fun h => ?_⟩
  · obtain ⟨starting, stopping, up⟩ := respExpired_retries hr
    rw [exec_tRespExpiry h]
    exact ⟨fun hs => by rw [starting hs]; rfl, fun hs => by rw [stopping hs]; rfl, fun hs => by rw [up hs]; rfl⟩
  · obtain ⟨starting, stopping, up⟩ := respExpired_spent hr
    rw [exec_tRespExpiry h]
    exact ⟨fun hs => by rw [starting hs], fun hs => by rw [stopping hs], fun hs => by rw [up hs]⟩
  all_goals exact if_neg (mt due_iff.mp h)

/-! ## The frames that make no entry -/

/-- Settles O54. -/
theorem takingsWithoutAnEntry : Obligations.TakingsWithoutAnEntry := by
  intro s l
  refine ⟨rfl, rfl, fun e a he ha => ?_, fun q hq => ?_, rfl, rfl, rfl, fun e g hg => ?_⟩
  · simp only [State.take, State.takeLinkFrame, Link.linkFrame, he, ha, Option.getD_some]; rfl
  · simp only [State.take, State.takeLinkFrame, Link.linkFrame, Link.par, hq, Option.getD_some]; rfl
  · simp only [State.take, State.takeRetransmission, hg, Option.bind_some]; rfl

/-! ## Steps -/

/-- Settles O1. -/
theorem stepTakesFrontCommand : Obligations.StepTakesFrontCommand := fun _ _ _ => rfl

end Sys2Proof.Machine
end

section
/-! SUPPORT. The tick of the time base (R26, R138, R140, R147): the claims that it causes are each of a list without repeats, and the free
order of log entry 3 is a permutation of them. -/

namespace Sys2Proof.Machine

/-! ## The free order of the claims -/

theorem insertClaim_perm (pos : Nat) (c : Instr) (cs : List Instr) : (insertClaim pos c cs).Perm (c :: cs) := by
  induction cs generalizing pos with
  | nil => exact .refl _
  | cons d rest ih =>
    unfold insertClaim
    split
    · exact .refl _
    · exact ((ih _).cons d).trans (.swap c d rest)

/-- Claims that fall together are queued in some order, each as often as it falls (log entry 3). -/
theorem orderClaims_perm (n : Nat) (cs : List Instr) : (orderClaims n cs).Perm cs := by
  induction cs generalizing n with
  | nil => exact .refl _
  | cons c rest ih => exact (insertClaim_perm _ _ _).trans ((ih _).cons c)

/-! ## The claims of a tick -/

theorem Link.mem_dueClaims {k : Link} {l : LinkId} {c : Instr} : c ∈ k.dueClaims l ↔
    (c = .tAckExpiry l ∧ k.tAck = some 0) ∨ (c = .tRespExpiry l ∧ k.tResp = some 0) ∨ (c = .tIdleExpiry l ∧ k.tIdle = some 0) := by
  simp [Link.dueClaims, due_iff, and_comm]

theorem LinePort.mem_dueClaims {p : LinePort} {l : LinkId} {c : Instr} : c ∈ p.dueClaims l ↔ p.enabled = true ∧
    ((∃ x, p.tx = some x ∧ x.chars.length < x.begun
        ∧ (c = .transmitComplete l ∧ x.cut = none ∨ c = .truncationComplete l ∧ x.cut ≠ none))
      ∨ c = .lineReadyAsserted l ∧ p.lrdy = true ∧ p.lineReady ≠ some true
      ∨ c = .lineReadyDeasserted l ∧ p.lrdy = false ∧ p.lineReady ≠ some false) := by
  cases enabled : p.enabled with
  | false => simp [LinePort.dueClaims, enabled]
  | true =>
    simp only [LinePort.dueClaims, enabled, Bool.not_true, Bool.false_eq_true, if_false, List.mem_append, true_and]
    refine or_congr ?_ ?_
    · cases p.tx with
      | none => simp
      | some x => cases cut : x.cut <;> simp [TxSlot.ended, cut, and_comm]
    · cases p.lrdy <;> simp [and_comm]

/-- Every claim that a tick can cause for a link record. -/
def linkClaims (l : LinkId) : List Instr := [.tAckExpiry l, .tRespExpiry l, .tIdleExpiry l]

/-- Every claim that a tick can cause for a line port. -/
def portClaims (l : LinkId) : List Instr :=
  [.truncationComplete l, .transmitComplete l, .lineReadyAsserted l, .lineReadyDeasserted l]

theorem tickClaims_nodup : ((linkClaims 0 ++ portClaims 0) ++ (linkClaims 1 ++ portClaims 1)).Nodup := by decide

theorem Link.dueClaims_sublist (k : Link) (l : LinkId) : (k.dueClaims l).Sublist (linkClaims l) := by
  have optional (b : Bool) (c : Instr) : (if b then [c] else []).Sublist [c] := by cases b <;> simp
  exact ((optional ..).append (optional ..)).append (optional ..)

theorem LinePort.dueClaims_sublist (p : LinePort) (l : LinkId) : (p.dueClaims l).Sublist (portClaims l) := by
  unfold LinePort.dueClaims
  split
  · exact List.nil_sublist _
  · refine .append (l₂ := [_, _]) (r₂ := [_, _]) ?_ ?_
    · split
      · split_ifs <;> simp
      · exact List.nil_sublist _
    · split_ifs <;> simp

/-- The claims waiting to be made on a link and its line port. -/
def State.claimsOf (s : State) (l : LinkId) : List Instr := (s.link l).dueClaims l ++ (s.line l).dueClaims l

theorem State.claimsOf_sublist (s : State) (l : LinkId) : (s.claimsOf l).Sublist (linkClaims l ++ portClaims l) :=
  ((s.link l).dueClaims_sublist l).append ((s.line l).dueClaims_sublist l)

/-- A tick causes a claim at most once. -/
theorem State.count_claims (s : State) (c : Instr) :
    (s.claimsOf 0 ++ s.claimsOf 1).count c = if ∃ l, c ∈ s.claimsOf l then 1 else 0 := by
  have nodup : (s.claimsOf 0 ++ s.claimsOf 1).Nodup :=
    tickClaims_nodup.sublist ((s.claimsOf_sublist 0).append (s.claimsOf_sublist 1))
  rw [nodup.count]
  simp [Fin.exists_fin_two]

/-! ## The tick -/

/-- The timers counted down by 1 ms and the line ports sent on by 1 ms. -/
def State.msOn (s : State) : State := { s with links := s.links.map Link.tick, lines := s.lines.map LinePort.tick }

@[simp] theorem msOn_link (s : State) (l : LinkId) : s.msOn.link l = (s.link l).tick := by simp [State.msOn, State.link]
@[simp] theorem msOn_line (s : State) (l : LinkId) : s.msOn.line l = (s.line l).tick := by simp [State.msOn, State.line]

theorem tick_resetLow {s : State} (h : s.resetLow = true) : s.tick = s := if_pos h

theorem tick_resetHigh {s : State} (h : s.resetLow = false) : s.tick = { s.msOn with
    pending := s.pending ++ orderClaims s.freeCount (s.msOn.claimsOf 0 ++ s.msOn.claimsOf 1)
    freeCount := s.freeCount + (s.msOn.claimsOf 0 ++ s.msOn.claimsOf 1).length } :=
  if_neg (by simp [h])

/-- The characters sent in 1 ms at each rate code, in hundredths (R138). -/
theorem pace_of_code {code : Nat} (h : code ≤ 7) :
    pace (some code) = [96, 192, 576, 1152, 4608, 9216, 18432, 31250].getD code 0 := by
  interval_cases code <;> rfl

variable {p : LinePort}

/-- The millisecond ends within the character in progress (R138). -/
theorem sendOn_within (h : pace p.charRate < 100 - p.phase) : p.sendOn = { p with phase := p.phase + pace p.charRate } := if_pos h

/-- The character in progress ends within the millisecond, and the rest of it is sent at the rate of the port (R138, R140). -/
theorem sendOn_past {n : Nat} (h : 100 - p.phase ≤ pace p.charRate)
    (hn : n = pace p.rate * (pace p.charRate - (100 - p.phase)) / pace p.charRate) :
    p.sendOn = { p with
      phase := n % 100, charRate := p.rate
      tx := p.tx.map fun y => { y with begun := min (y.begun + 1 + n / 100) (y.chars.length + 1) } } := by
  subst hn
  simp only [Nat.add_assoc]
  exact if_neg (Nat.not_lt.mpr h)

theorem tick_enabled (h : p.enabled = true) : p.tick = p.sendOn := if_pos h

/-- Settles O2: the tick of `tick_resetHigh`, its claims counted through `orderClaims_perm` and `State.count_claims`. -/
theorem emptyQueueTicks : Obligations.EmptyQueueTicks := by
  intro s idle
  refine ⟨s.tick, by rw [step, idle], tick_resetLow, fun high => ?_⟩
  rw [tick_resetHigh high, idle, List.nil_append]
  refine ⟨fun l => msOn_link s l, fun l off => ?_, fun l code old on hr hc ho hold => ?_, fun c => ?_,
    rfl, rfl, rfl, rfl⟩
  · exact (msOn_line s l).trans (tick_disabled off)
  · have paced := congrArg pace ho |>.trans (pace_of_code hold)
    have paced' := congrArg pace hr |>.trans (pace_of_code hc)
    dsimp only
    rw [← hr, ← paced, ← paced']
    refine ⟨fun within => (msOn_line s l).trans ((tick_enabled on).trans (sendOn_within within)), fun past => ?_⟩
    exact (msOn_line s l).trans ((tick_enabled on).trans (sendOn_past past rfl))
  · rw [(orderClaims_perm _ _).count_eq, State.count_claims]
    refine if_congr (exists_congr fun l => ?_) rfl rfl
    rw [State.claimsOf, List.mem_append, Link.mem_dueClaims, LinePort.mem_dueClaims, or_assoc, or_assoc]
    exact Iff.rfl

end Sys2Proof.Machine
end

section
/-! SUPPORT. A teardown of a link, record by record: what is given up before the credit-owed list is served (R133), and the grants of
the list, which are served in turn (R100, R101). -/

namespace Sys2Proof.Machine

/-! ## What one record gives up -/

/-- A host port after the events of a list that go to its slot. -/
def HostPort.posted (x : HostPort) (p : Slot) (es : List (Slot × Event)) : HostPort :=
  ((es.filter fun e => e.1 = p).map Prod.snd).foldl HostPort.post x

@[simp] theorem posted_nil (x : HostPort) (p : Slot) : x.posted p [] = x := rfl

theorem posted_append (x : HostPort) (p : Slot) (a b : List (Slot × Event)) : x.posted p (a ++ b) = (x.posted p a).posted p b := by
  simp [HostPort.posted]

theorem postTo_posted (s : State) (n p : Slot) (e : Event) : (s.postTo n e).port p = (s.port p).posted p [(n, e)] := by
  rw [postTo_port]
  by_cases h : p = n
  · subst h; simp [HostPort.posted]
  · simp [HostPort.posted, h, Ne.symm h]

theorem chargedBlocks_append (n : Slot) (a b : List TxMsg) : chargedBlocks n (a ++ b) = chargedBlocks n a + chargedBlocks n b := by
  simp [chargedBlocks]

/-- The messages that a record gives up when its link is torn down (R133). -/
def Chan.tornMsgs (c : Chan) : List TxMsg := if c.state ∈ [.opening, .opened, .closing] then c.sendQ else []

/-- What a teardown of its link does to record `i`, and with it to the ports and the pool, before the credit-owed list is served
(R133). -/
structure State.Tears (s w : State) (i : ChanId) (r : Reason) : Prop where
  self : w.chan i = (s.chan i).tornDown r
  others : ∀ j, j ≠ i → w.chan j = s.chan j
  links : ∀ j, j ≠ (s.chan i).link → w.link j = s.link j
  ports : ∀ p, w.port p = (s.port p).posted p ((s.chan i).tornEvent i r).toList
  lines : ∀ l, w.line l = s.line l
  free : w.pool.free = s.pool.free + ((s.chan i).tornMsgs.map TxMsg.blocks).sum
  usage : ∀ n : Slot, w.pool.usage[n] = s.pool.usage[n] - chargedBlocks n (s.chan i).tornMsgs
  rx : w.pool.rx = s.pool.rx
  owed : w.pool.creditOwed = s.pool.creditOwed.filter (· != i) ∨ w.pool.creditOwed = s.pool.creditOwed
  model : w.resetLow = s.resetLow ∧ w.freeCount = s.freeCount ∧ w.pending = s.pending

/-- A record ended by a teardown (R121, R133). -/
theorem endChan_tears (s : State) (i : ChanId) (r : Reason) (h : (s.chan i).state ∈ [.opening, .opened, .closing]) :
    ∃ w, s.endChan i r = w.serve ∧ s.Tears w i r := by
  have torn : (s.chan i).tornDown r = (s.chan i).endedWith r
      ∧ (s.chan i).tornEvent i r = some ((s.chan i).owner,
          { kind := .chEnded, link := (s.chan i).link, channel := i, reason := some r, arg := (s.chan i).sendQ.length })
      ∧ (s.chan i).tornMsgs = (s.chan i).sendQ := by
    refine ⟨?_, ?_, if_pos h⟩ <;> (simp at h; rcases h with e | e | e <;> simp [Chan.tornDown, Chan.tornEvent, e])
  obtain ⟨record, event, msgs⟩ := torn
  obtain ⟨free, usage, rx, -, owed⟩ := freeTxMsgs_pool s (s.chan i).sendQ
  refine ⟨_, rfl, ?_⟩
  constructor
  case self => rw [record]; simp [Chan.endedWith]
  case others => intro j hj; simp [State.releaseCredit, State.clearNotify, hj]
  case links =>
    intro j hj
    have kept : ((s.freeTxMsgs (s.chan i).sendQ).setOwed i {}).link j = s.link j := setOwed_link_ne _ _ hj
    simp [State.releaseCredit, State.clearNotify, hj, kept]
  case ports => intro p; rw [event, postTo_posted]; simp [State.chanEvent, State.releaseCredit, State.clearNotify]
  case lines => intro l; simp [State.releaseCredit, State.clearNotify]
  case free => rw [msgs]; exact free
  case usage => rw [msgs]; exact usage
  case rx => exact rx
  case owed => exact .inl (congrArg (List.filter (· != i)) owed)
  case model => simp [State.releaseCredit, State.clearNotify, State.freeTxMsgs]

/-- An ABORTING record freed by a teardown (R133). -/
theorem freeAborted_tears (s : State) (i : ChanId) (r : Reason) (h : (s.chan i).state = .aborting) : s.Tears (s.freeAborted i) i r := by
  have record : (s.chan i).tornDown r = {} := by simp [Chan.tornDown, h]
  have event : (s.chan i).tornEvent i r = some ((s.chan i).owner,
      { kind := .chFreed, link := (s.chan i).link, channel := i, reason := none, arg := 0 }) := by simp [Chan.tornEvent, h]
  have msgs : (s.chan i).tornMsgs = [] := if_neg (by simp [h])
  rw [freeAborted_eq]
  constructor
  case self => rw [record]; simp [State.freedAborted]
  case others => intro j hj; simp [State.freedAborted, hj]
  case links => intro j hj; simp [State.freedAborted, hj]
  case ports => intro p; rw [event]; exact postTo_posted ..
  case lines => intro l; rfl
  case free => rw [msgs]; rfl
  case usage => intro n; rw [msgs]; rfl
  case rx => rfl
  case owed => exact .inr rfl
  case model => exact ⟨rfl, rfl, rfl⟩

/-- The effect of a teardown on one record (R133): what the record gives up, and the serving of the credit-owed list if it is ended. -/
theorem tearRecord_tears (s : State) (i : ChanId) (r : Reason) :
    ∃ w, (s.tearRecord i r = w ∨ s.tearRecord i r = w.serve) ∧ s.Tears w i r := by
  have same (hd : (s.chan i).tornDown r = s.chan i) (he : (s.chan i).tornEvent i r = none) (hm : (s.chan i).tornMsgs = []) :
      s.Tears s i r :=
    { self := hd.symm, others := fun _ _ => rfl, links := fun _ _ => rfl, ports := fun p => by rw [he]; rfl, lines := fun _ => rfl
      free := by rw [hm]; rfl
      usage := fun n => by rw [hm]; rfl
      rx := rfl, owed := .inr rfl, model := ⟨rfl, rfl, rfl⟩ }
  unfold State.tearRecord
  cases hs : (s.chan i).state with
  | opening | opened | closing =>
    obtain ⟨w, e, t⟩ := endChan_tears s i r (by simp [hs])
    exact ⟨w, .inr e, t⟩
  | aborting => exact ⟨_, .inl rfl, freeAborted_tears s i r hs⟩
  | free | listen | ended =>
    exact ⟨s, .inl rfl, same (by simp [Chan.tornDown, hs]) (by simp [Chan.tornEvent, hs]) (by simp [Chan.tornMsgs, hs])⟩

/-! ## Grants in turn -/

@[simp] theorem granted_zero (c : Chan) : c.granted 0 = c := if_pos rfl

@[simp] theorem granted_link (c : Chan) (g : Nat) : (c.granted g).link = c.link := by unfold Chan.granted; split <;> rfl

theorem granted_granted (c : Chan) (a b : Nat) : (c.granted a).granted b = c.granted (a + b) := by
  by_cases ha : a = 0
  · subst ha; simp
  by_cases hb : b = 0
  · subst hb; simp
  simp [Chan.granted, ha, hb, BitVec.ofNat_add, BitVec.add_assoc]

theorem granted_quiet {c : Chan} {g : Nat} : (c.granted g).owed = {} ↔ c.owed = {} ∧ g = 0 := by
  by_cases h : g = 0 <;> simp [Chan.granted, h]

theorem granted_close (c : Chan) (g : Nat) : (c.granted g).owed.close = c.owed.close := by unfold Chan.granted; split <;> rfl

/-- A grant to an OPEN record is taken off its want: its credit is within its rx window, which is at most 64 (R89, R100). -/
theorem granted_openWant {c : Chan} (h : c.Ok) (ho : c.state = .opened) {g : Nat} (hg : g ≤ c.openWant) :
    (c.granted g).openWant = c.openWant - g := by
  have receive := h.receive
  have window := (h.window (by simp [ho])).2
  by_cases h0 : g = 0
  · subst h0; simp
  · simp only [Chan.openWant, Chan.want, Chan.outstanding, Chan.granted, ho, if_true, if_neg h0] at *
    bv_omega

/-- A grant to a record that owes no CLOSE (R100). -/
theorem raiseGrant_self {s : State} {i : ChanId} (hc : (s.chan i).owed.close = none) (g : Nat) :
    (s.raiseGrant i g).chan i = (s.chan i).granted g := by
  by_cases h : g = 0
  · subst h; simp [State.raiseGrant]
  · rw [raiseGrant_eq s i h]
    simp [hc, Chan.granted, h]

/-- CREDIT owed by a record that owed nothing joins the tail of the control-ready list (R24, R100). -/
theorem raiseGrant_ready {s : State} {i : ChanId} (hc : (s.chan i).owed.close = none) (g : Nat) (j : LinkId) :
    ((s.raiseGrant i g).link j).ready =
      (s.link j).ready ++ if (s.chan i).link = j ∧ (s.chan i).owed = {} ∧ g ≠ 0 then [i] else [] := by
  by_cases h : g = 0
  · subst h; simp [State.raiseGrant]
  · rw [raiseGrant_eq s i h]
    by_cases hj : (s.chan i).link = j
    · subst hj
      by_cases he : (s.chan i).owed = {} <;> simp [hc, he, h]
    · simp [hc, hj, Ne.symm hj]

/-- The records of a list that owed nothing in `s` and owe CREDIT in `u`, on link `j`. -/
def State.called (s u : State) (j : LinkId) (q : List ChanId) : List ChanId :=
  q.filter fun i => decide ((s.chan i).link = j ∧ (s.chan i).owed = {} ∧ (u.chan i).owed ≠ {})

theorem called_middle (s u : State) (j : LinkId) (a b : List ChanId) (i : ChanId) :
    s.called u j (a ++ i :: b) = s.called u j a ++ (s.called u j [i] ++ s.called u j b) := by
  rw [State.called, ← List.singleton_append, List.filter_append, List.filter_append]
  rfl

theorem called_unchanged {s u : State} {q : List ChanId} (h : ∀ i ∈ q, u.chan i = s.chan i) (j : LinkId) : s.called u j q = [] := by
  refine List.filter_eq_nil_iff.mpr fun i hi => ?_
  simp only [h i hi, decide_eq_true_eq]
  exact fun c => c.2.2 c.2.1

/-- A further grant calls a record that owed nothing, when it is the first. -/
theorem called_granted {s u v : State} {i : ChanId} {a g : Nat} (hu : u.chan i = (s.chan i).granted a)
    (hv : v.chan i = (s.chan i).granted (a + g)) (j : LinkId) : s.called u j [i] ++
      (if (u.chan i).link = j ∧ (u.chan i).owed = {} ∧ g ≠ 0 then [i] else []) = s.called v j [i] := by
  simp only [State.called, List.filter_singleton, hu, hv, granted_link, ne_eq, granted_quiet]
  by_cases first : (s.chan i).link = j ∧ (s.chan i).owed = {}
  · obtain ⟨hl, ho⟩ := first
    by_cases ha : a = 0 <;> simp [hl, ho, ha]
  · rcases not_and_or.mp first with h | h <;> simp [h]

/-- The credit-owed list `q` of `s` has been served from its head as far as `u`, where `list` is left of it (R101): as in
State.ServedInTurn, with the control-ready lists of the links besides `l`, and while blocks may still be free-unreserved. -/
structure State.Turn (s : State) (l : LinkId) (q list : List ChanId) (u : State) : Prop where
  met : ∃ met, q = met ++ list ∧ ∀ i ∈ met, u.chan i = (s.chan i).granted (s.chan i).openWant
  head : ∀ i, list.head? = some i → ∃ g, (g = 0 ∨ g < (s.chan i).openWant) ∧ u.chan i = (s.chan i).granted g
  behind : ∀ i ∈ list.tail, u.chan i = s.chan i
  ready : ∀ j, j ≠ l → (u.link j).ready = (s.link j).ready ++ s.called u j q

/-- The records of `q` are OPEN, each once, and obey the law of records. -/
structure State.CanWait (s : State) (q : List ChanId) : Prop where
  once : q.Nodup
  opened : ∀ i ∈ q, (s.chan i).state = .opened
  ok : ∀ i ∈ q, (s.chan i).Ok

namespace State.Turn
variable {s u v : State} {l : LinkId} {q list : List ChanId} {i : ChanId}

theorem start (hc : ∀ i ∈ q, u.chan i = s.chan i) (hr : ∀ j, j ≠ l → (u.link j).ready = (s.link j).ready) : s.Turn l q q u where
  met := ⟨[], rfl, by simp⟩
  head i hi := ⟨0, .inl rfl, (hc i (List.mem_of_head? hi)).trans (granted_zero _).symm⟩
  behind i hi := hc i (List.mem_of_mem_tail hi)
  ready j hj := by
    rw [hr j hj, called_unchanged hc, List.append_nil]

/-- A change that leaves the records of `q` and the control-ready lists of the links besides `l`. -/
theorem same (h : s.Turn l q list u) (hc : ∀ i ∈ q, v.chan i = u.chan i) (hr : ∀ j, j ≠ l → (v.link j).ready = (u.link j).ready) :
    s.Turn l q list v := by
  obtain ⟨met, hq, hm⟩ := h.met
  have left : ∀ i ∈ list, v.chan i = u.chan i := fun i hi => hc i (by simp [hq, hi])
  refine ⟨⟨met, hq, fun i hi => (hc i (by simp [hq, hi])).trans (hm i hi)⟩, fun i hi => ?_,
    fun i hi => (left i (List.mem_of_mem_tail hi)).trans (h.behind i hi), fun j hj => ?_⟩
  · rw [left i (List.mem_of_head? hi)]; exact h.head i hi
  · rw [hr j hj, h.ready j hj]
    refine congrArg _ (List.filter_congr fun i hi => ?_)
    rw [hc i hi]

/-- A grant to the record at the head of the list: with what it got before, a part of its want. -/
theorem grant (ok : s.CanWait q) (h : s.Turn l q (i :: list) u) {g : Nat} (hg : g ≤ (u.chan i).openWant) :
    ∃ n, n ≤ (s.chan i).openWant ∧ (u.chan i).openWant - g = (s.chan i).openWant - n
      ∧ (u.raiseGrant i g).chan i = (s.chan i).granted n
      ∧ (∀ k, k ≠ i → (u.raiseGrant i g).chan k = u.chan k)
      ∧ ∀ j, j ≠ l → ((u.raiseGrant i g).link j).ready = (s.link j).ready ++ s.called (u.raiseGrant i g) j q := by
  obtain ⟨met, hq, hm⟩ := h.met
  have mem : i ∈ q := by simp [hq]
  obtain ⟨a, ha, had⟩ := h.head i rfl
  have within : a ≤ (s.chan i).openWant := by omega
  have want := granted_openWant (ok.ok i mem) (ok.opened i mem) within
  have close : (u.chan i).owed.close = none := by
    rw [had, granted_close]; exact ((ok.ok i mem).opened (ok.opened i mem)).2
  have self : (u.raiseGrant i g).chan i = (s.chan i).granted (a + g) := by rw [raiseGrant_self close, had, granted_granted]
  have isOpen : (u.chan i).state = .opened := by
    rw [had]; unfold Chan.granted; split <;> exact ok.opened i mem
  have others : ∀ k, k ≠ i → (u.raiseGrant i g).chan k = u.chan k := fun k hk => (raiseGrant_spec u i g fun _ => isOpen).2.1 k (.inl hk)
  rw [← had] at want
  refine ⟨a + g, by omega, by omega, self, others, fun j hj => ?_⟩
  rw [raiseGrant_ready close, h.ready j hj, List.append_assoc]
  refine congrArg _ ?_
  have once := ok.once
  rw [hq] at once ⊢
  have apart : ∀ k ∈ met ++ list, k ≠ i := by
    rintro k hk rfl
    simp [List.nodup_middle] at once hk
    tauto
  have kept (p : List ChanId) (hp : p ⊆ met ++ list) : s.called (u.raiseGrant i g) j p = s.called u j p :=
    List.filter_congr fun k hk => by rw [others k (apart k (hp hk))]
  have single := called_granted had self j
  rw [called_middle, called_middle, kept met (by simp), kept list (by simp), called_unchanged (q := list) h.behind]
  simp only [List.append_nil, List.append_assoc, single]

/-- Serving the list from its head goes on in turn (R101). -/
theorem serveList (ok : s.CanWait q) (h : s.Turn l q list u) :
    s.Turn l q (State.serveList list u).pool.creditOwed (State.serveList list u) := by
  induction list generalizing u with
  | nil => exact h.same (fun _ _ => rfl) fun _ _ => rfl
  | cons i rest ih =>
    rw [State.serveList]
    by_cases full : u.pool.unreserved = 0
    · rw [if_pos full]
      exact h.same (fun _ _ => rfl) fun _ _ => rfl
    rw [if_neg full]
    obtain ⟨n, hn, left, self, others, ready⟩ := h.grant ok (Nat.min_le_left _ u.pool.unreserved)
    obtain ⟨met, hq, hm⟩ := h.met
    have once := ok.once
    rw [hq, List.nodup_middle, List.nodup_cons] at once
    have apart : ∀ k ∈ met ++ rest, k ≠ i := fun k hk e => once.1 (e ▸ hk)
    have done : ∀ k ∈ met, _ := fun k hk => (others k (apart k (by simp [hk]))).trans (hm k hk)
    have wait : ∀ k ∈ rest, _ := fun k hk => (others k (apart k (by simp [hk]))).trans (h.behind k hk)
    dsimp only
    split
    · rename_i short
      refine State.Turn.same (u := u.raiseGrant i _) (list := i :: rest)
        ⟨⟨met, hq, done⟩, fun k hk => ?_, wait, ready⟩ (fun _ _ => rfl) fun _ _ => rfl
      obtain rfl : i = k := by simpa using hk
      exact ⟨n, .inr (by omega), self⟩
    · rename_i whole
      have all : n = (s.chan i).openWant := by omega
      refine ih ⟨⟨met ++ [i], by simp [hq], fun k hk => ?_⟩, fun k hk => ?_, fun k hk => wait k (List.mem_of_mem_tail hk), ready⟩
      · rcases List.mem_append.mp hk with hk | hk
        · exact done k hk
        · obtain rfl : k = i := by simpa using hk
          exact all ▸ self
      · exact ⟨0, .inl rfl, (wait k (List.mem_of_head? hk)).trans (granted_zero _).symm⟩

end State.Turn

/-! ## The records of a link, one after the other (R133) -/

/-- The records on the credit-owed list of `s` that are not of link `l`, in the order of the list. -/
def State.waitingBeside (s : State) (l : LinkId) : List ChanId := s.pool.creditOwed.filter fun i => (s.chan i).link != l

/-- The records on the list of a pool that obeys its law can wait (R100). -/
theorem canWait_beside {s : State} (hr : s.RecordsOk) (hp : s.PoolOk) (l : LinkId) : s.CanWait (s.waitingBeside l) where
  once := hp.once.filter _
  opened i hi := hp.waiting i (List.mem_of_mem_filter hi)
  ok i _ := hr i

/-- The event that a teardown of link `l` posts for record `i`, with the slot it goes to (R133). -/
def State.tornEventOf (s : State) (l : LinkId) (r : Reason) (i : ChanId) : Option (Slot × Event) :=
  if (s.chan i).link = l then (s.chan i).tornEvent i r else none

/-- The messages that record `i` gives up when link `l` is torn down (R133). -/
def State.tornMsgsOf (s : State) (l : LinkId) (i : ChanId) : List TxMsg :=
  if (s.chan i).link = l ∧ (s.chan i).state ∈ [.opening, .opened, .closing] then (s.chan i).sendQ else []

section TornOf
variable {s : State} {l : LinkId} {r : Reason} {i : ChanId}
theorem tornEventOf_self (h : (s.chan i).link = l) : s.tornEventOf l r i = (s.chan i).tornEvent i r := if_pos h
theorem tornEventOf_other (h : (s.chan i).link ≠ l) : s.tornEventOf l r i = none := if_neg h
theorem tornMsgsOf_self (h : (s.chan i).link = l) : s.tornMsgsOf l i = (s.chan i).tornMsgs := by simp [State.tornMsgsOf, Chan.tornMsgs, h]
theorem tornMsgsOf_other (h : (s.chan i).link ≠ l) : s.tornMsgsOf l i = [] := if_neg fun e => h e.1
end TornOf

/-- In `u` the records `done` of link `l` have been torn down, the events `es` posted and the messages `ms` freed, and the credit-owed
list has been served in turn; nothing else has changed since `s`, but for link `l` itself. -/
structure State.TornUpTo (s : State) (l : LinkId) (r : Reason) (done : List ChanId) (es : List (Slot × Event)) (ms : List TxMsg)
    (u : State) : Prop where
  mine : ∀ i, (s.chan i).link = l → u.chan i = if i ∈ done then (s.chan i).tornDown r else s.chan i
  others : ∀ i, (s.chan i).link ≠ l → (u.chan i).grantedFrom (s.chan i) ∧ (i ∉ s.pool.creditOwed → u.chan i = s.chan i)
  links : ∀ j, j ≠ l → (u.link j).readyFrom (s.link j)
  ports : ∀ p, u.port p = (s.port p).posted p es
  lines : ∀ j, u.line j = s.line j
  free : u.pool.free = s.pool.free + (ms.map TxMsg.blocks).sum
  usage : ∀ n : Slot, u.pool.usage[n] = s.pool.usage[n] - chargedBlocks n ms
  rx : u.pool.rx = s.pool.rx
  list : u.pool.creditOwed <:+ s.waitingBeside l
  turn : s.CanWait (s.waitingBeside l) → s.Turn l (s.waitingBeside l) u.pool.creditOwed u
  model : u.resetLow = s.resetLow ∧ u.freeCount = s.freeCount ∧ u.pending = s.pending

namespace State.TornUpTo
variable {s u w : State} {l : LinkId} {r : Reason} {done : List ChanId} {es : List (Slot × Event)} {ms : List TxMsg} {i : ChanId}

/-- The records of the link leave the credit-owed list (R133). -/
theorem start (s : State) (l : LinkId) (r : Reason) : s.TornUpTo l r [] [] [] (s.setCreditOwed (s.waitingBeside l)) where
  mine _ _ := rfl
  others _ _ := ⟨Chan.grantedFrom_refl _, fun _ => rfl⟩
  links _ _ := rfl
  ports _ := rfl
  lines _ := rfl
  free := rfl
  usage _ := rfl
  rx := rfl
  list := List.suffix_rfl
  turn _ := .start (fun _ _ => rfl) fun _ _ => rfl
  model := ⟨rfl, rfl, rfl⟩

theorem off_list (h : s.TornUpTo l r done es ms u) (hi : i ∈ u.pool.creditOwed) : (s.chan i).link ≠ l ∧ i ∈ s.pool.creditOwed := by
  have mem := h.list.subset hi
  simpa [State.waitingBeside, and_comm] using mem

theorem chan_link (h : s.TornUpTo l r done es ms u) (hi : i ∉ done) : (u.chan i).link = (s.chan i).link := by
  by_cases hl : (s.chan i).link = l
  · rw [h.mine i hl, if_neg hi]
  · exact (h.others i hl).1.link

/-- A record of the other link is passed over. -/
theorem skip (h : s.TornUpTo l r done es ms u) (hi : (s.chan i).link ≠ l) : s.TornUpTo l r (done ++ [i]) es ms u :=
  { h with
    mine := fun k hk => by
      have ne : k ≠ i := fun e => hi (e ▸ hk)
      simpa [ne] using h.mine k hk }

/-- A record of the link is torn down. -/
theorem tear (h : s.TornUpTo l r done es ms u) (hi : (s.chan i).link = l) (new : i ∉ done) (t : u.Tears w i r) :
    s.TornUpTo l r (done ++ [i]) (es ++ ((s.chan i).tornEvent i r).toList) (ms ++ (s.chan i).tornMsgs) w := by
  have old : u.chan i = s.chan i := by rw [h.mine i hi, if_neg new]
  have off : i ∉ u.pool.creditOwed := fun hm => (h.off_list hm).1 hi
  have list : w.pool.creditOwed = u.pool.creditOwed := by
    rcases t.owed with e | e
    · rw [e, List.filter_eq_self]
      exact fun k hk => by simpa using fun e : k = i => off (e ▸ hk)
    · exact e
  have elsewhere : ∀ j, j ≠ l → w.link j = u.link j := fun j hj => t.links j (by rwa [old, hi])
  obtain ⟨m1, m2, m3⟩ := t.model
  obtain ⟨n1, n2, n3⟩ := h.model
  constructor
  case mine =>
    intro k hk
    by_cases e : k = i
    · subst e; simp [t.self, old]
    · simpa [t.others k e, e] using h.mine k hk
  case others =>
    intro k hk
    rw [t.others k (fun e => hk (e ▸ hi))]
    exact h.others k hk
  case links => intro j hj; rw [elsewhere j hj]; exact h.links j hj
  case ports => intro p; rw [t.ports, h.ports, old, posted_append]
  case lines => exact fun j => (t.lines j).trans (h.lines j)
  case free => rw [t.free, h.free, old, List.map_append, List.sum_append, Nat.add_assoc]
  case usage => intro n; rw [t.usage, h.usage, old, chargedBlocks_append, Nat.sub_sub]
  case rx => exact t.rx.trans h.rx
  case list => rw [list]; exact h.list
  case turn =>
    intro ok
    rw [list]
    refine (h.turn ok).same (fun k hk => t.others k fun e => ?_) fun j hj => by rw [elsewhere j hj]
    have mem : i ∈ s.waitingBeside l := e ▸ hk
    simp [State.waitingBeside, hi] at mem
  case model => exact ⟨m1.trans n1, m2.trans n2, m3.trans n3⟩

/-- The credit-owed list is served (R101): it holds no record of the link. -/
theorem serve (h : s.TornUpTo l r done es ms u) : s.TornUpTo l r done es ms u.serve := by
  have served := serve_served u
  constructor
  case mine =>
    intro k hk
    rw [served.others k (.inl fun hm => (h.off_list hm).1 hk)]
    exact h.mine k hk
  case others =>
    intro k hk
    obtain ⟨from_, kept⟩ := h.others k hk
    refine ⟨from_.trans (served.chans k), fun hm => ?_⟩
    rw [served.others k (.inl fun hm' => hm (h.off_list hm').2)]
    exact kept hm
  case links =>
    intro j hj
    obtain ⟨_, e, -⟩ := served.links j
    rw [e, Link.readyFrom, h.links j hj]
  case ports => exact fun p => (serve_port u p).trans (h.ports p)
  case lines => exact fun j => (serve_line u j).trans (h.lines j)
  case free => exact served.free.trans h.free
  case usage => intro n; rw [served.usage]; exact h.usage n
  case rx => exact served.rx.trans h.rx
  case list => exact served.rest.trans h.list
  case turn => exact fun ok => (h.turn ok).serveList ok
  case model => simpa using h.model

/-- Messages freed besides those of the records (R93). -/
theorem freeTxMsgs (h : s.TornUpTo l r done es ms u) (more : List TxMsg) :
    s.TornUpTo l r done es (ms ++ more) (u.freeTxMsgs more) := by
  obtain ⟨free, usage, rx, -, owed⟩ := freeTxMsgs_pool u more
  exact { h with
    free := by rw [free, h.free, List.map_append, List.sum_append, Nat.add_assoc]
    usage := fun n => by rw [usage, h.usage, chargedBlocks_append, Nat.sub_sub]
    rx := rx.trans h.rx
    list := owed ▸ h.list
    turn := fun ok => owed ▸ (h.turn ok).same (fun _ _ => rfl) fun _ _ => rfl }

/-- The record of the link itself changes. -/
theorem setLink (h : s.TornUpTo l r done es ms u) (k : Link) : s.TornUpTo l r done es ms (u.setLink l k) :=
  { h with
    links := fun j hj => by rw [link_setLink_ne _ _ hj]; exact h.links j hj
    turn := fun ok => (h.turn ok).same (fun _ _ => rfl) fun j hj => by rw [link_setLink_ne _ _ hj] }

/-- The records of a list are taken one after the other: those of the link are torn down, with the credit-owed list served after each that
is ended. -/
theorem records (q : List ChanId) (once : (done ++ q).Nodup) (h : s.TornUpTo l r done es ms u) :
    s.TornUpTo l r (done ++ q) (es ++ q.filterMap (s.tornEventOf l r)) (ms ++ q.flatMap (s.tornMsgsOf l))
      (q.foldl (fun s i => if (s.chan i).link = l then s.tearRecord i r else s) u) := by
  induction q generalizing done es ms u with
  | nil => simpa using h
  | cons i rest ih =>
    have new : i ∉ done := fun hm => (List.nodup_append.mp once).2.2 i hm i (by simp) rfl
    have stepped : s.TornUpTo l r (done ++ [i]) (es ++ (s.tornEventOf l r i).toList) (ms ++ s.tornMsgsOf l i)
        (if (u.chan i).link = l then u.tearRecord i r else u) := by
      rw [h.chan_link new]
      by_cases hi : (s.chan i).link = l
      · rw [if_pos hi, tornEventOf_self hi, tornMsgsOf_self hi]
        obtain ⟨w, e | e, t⟩ := tearRecord_tears u i r <;> rw [e]
        · exact h.tear hi new t
        · exact (h.tear hi new t).serve
      · rw [if_neg hi, tornEventOf_other hi, tornMsgsOf_other hi]
        simpa using h.skip hi
    have events : (i :: rest).filterMap (s.tornEventOf l r) = (s.tornEventOf l r i).toList ++ rest.filterMap (s.tornEventOf l r) := by
      cases e : s.tornEventOf l r i <;> simp [e]
    have last := ih (by simpa using once) stepped
    rw [events, List.flatMap_cons, List.foldl_cons]
    simpa only [List.append_assoc, List.singleton_append] using last

end State.TornUpTo

/-- The channel table takes a teardown (R133). -/
theorem tearChannels_torn (s : State) (l : LinkId) (r : Reason) :
    s.TornUpTo l r allChans (s.tornEvents l r) (allChans.flatMap (s.tornMsgsOf l)) (s.tearChannels l r) :=
  (State.TornUpTo.start s l r).records allChans (List.nodup_finRange 32)

theorem dataMsgs_unnoted (es : List Entry) :
    dataMsgs (es.map Entry.unnoted) = (dataMsgs es).map fun m => { m with notify := false } := by
  induction es with
  | nil => rfl
  | cons e es ih =>
    simp only [dataMsgs, List.map_cons, List.filterMap_cons, Entry.unnoted] at ih ⊢
    rcases e with ⟨_, _, _, m | c⟩ <;> simp [ih]

/-- Two lists of messages that hold the same blocks, charged to the same slots. -/
def SameBlocks (a b : List TxMsg) : Prop :=
  (a.map TxMsg.blocks).sum = (b.map TxMsg.blocks).sum ∧ ∀ n, chargedBlocks n a = chargedBlocks n b

theorem SameBlocks.append_left {a b : List TxMsg} (h : SameBlocks a b) (c : List TxMsg) : SameBlocks (c ++ a) (c ++ b) := by
  obtain ⟨sum, charged⟩ := h
  exact ⟨by simp [sum], fun n => by rw [chargedBlocks_append, chargedBlocks_append, charged]⟩

/-- What the channel table changes of a retransmission list leaves the blocks of its messages (R114). -/
theorem dataMsgs_sameBlocks {k k' : Link} (h : k'.core = k.core) : SameBlocks (dataMsgs k'.rtx) (dataMsgs k.rtx) := by
  have unnoted (es : List Entry) : SameBlocks (dataMsgs (es.map Entry.unnoted)) (dataMsgs es) := by
    rw [dataMsgs_unnoted]
    simp only [SameBlocks, chargedBlocks, List.filter_map, List.map_map, Function.comp_def]
    exact ⟨rfl, fun _ => rfl⟩
  have same : k'.rtx.map Entry.unnoted = k.rtx.map Entry.unnoted := congrArg Link.rtx h
  obtain ⟨sum', charged'⟩ := unnoted k'.rtx
  obtain ⟨sum, charged⟩ := unnoted k.rtx
  rw [same] at sum' charged'
  exact ⟨sum'.symm.trans sum, fun n => (charged' n).symm.trans (charged n)⟩

theorem State.TornUpTo.of_sameBlocks {s u : State} {l : LinkId} {r : Reason} {done : List ChanId} {es : List (Slot × Event)}
    {a b : List TxMsg} (h : s.TornUpTo l r done es a u) (same : SameBlocks a b) : s.TornUpTo l r done es b u :=
  { h with
    free := by rw [h.free, same.1]
    usage := fun n => by rw [h.usage, same.2] }

/-- A link record is torn when its engine has torn it and the serving of the credit-owed list reaches no record of the link. -/
theorem State.TornUpTo.link_serve {s u : State} {l : LinkId} {r : Reason} {done : List ChanId} {es : List (Slot × Event)}
    {ms : List TxMsg} (h : s.TornUpTo l r done es ms u) : u.serve.link l = u.link l := by
  obtain ⟨extra, e, he⟩ := (serve_served u).links l
  have none : extra = [] := by
    refine List.eq_nil_iff_forall_not_mem.mpr fun i hi => ?_
    obtain ⟨listed, -, linked, -⟩ := he i hi
    have off := (h.off_list listed).1
    exact off ((h.others i off).1.link ▸ linked)
  rw [e, none, List.append_nil]

/-- A teardown (R46): the channel table, the link record and its messages, the serving of the credit-owed list, and the line port. -/
theorem teardown_torn (s : State) (l : LinkId) (r : Reason) : ∃ v, s.teardown l r = v.setLine l (s.line l).toldTeardown
    ∧ s.TornUpTo l r allChans (s.tornEvents l r) (allChans.flatMap (s.tornMsgsOf l) ++ dataMsgs (s.link l).rtx) v
    ∧ v.link l = (s.link l).torn ∧ (v.pool.creditOwed = [] ∨ v.pool.unreserved = 0) := by
  have core := tearChannels_core s l r l
  have torn := ((tearChannels_torn s l r).freeTxMsgs _).of_sameBlocks ((dataMsgs_sameBlocks core).append_left _)
  have torn := torn.setLink ((s.tearChannels l r).link l).torn
  refine ⟨_, ?_, torn.serve, ?_, (serve_served _).done⟩
  · rw [← torn.serve.lines l]; rfl
  · rw [torn.link_serve, link_setLink, torn_congr core]

theorem sequenced_iff {f : Frame} : f.sequenced = true ↔ ∃ ns nr dst src c, f = .seq ns nr dst src c := by
  cases f <;> simp [Frame.sequenced]

/-- A line port told of a teardown cuts off a sequenced frame with a character of its escaped body not yet begun (R141). -/
theorem toldTeardown_cut {p : LinePort} {t : TxSlot} (h : p.tx = some t) (hs : t.frame.sequenced = true) (hc : t.cut = none)
    (hb : t.begun + 1 < t.frame.lineChars.length) : p.toldTeardown = { p with tx := some { t with cut := some t.begun } } := by
  rw [toldTeardown_eq, h, Option.map_some, if_pos ⟨hs, hc, hb⟩]

/-- Every other frame completes (R141). -/
theorem toldTeardown_uncut {p : LinePort} (h : ∀ t, p.tx = some t →
    ¬ (t.frame.sequenced = true ∧ t.cut = none ∧ t.begun + 1 < t.frame.lineChars.length)) : p.toldTeardown = p := by
  rw [toldTeardown_eq]
  cases htx : p.tx with
  | none => rw [Option.map_none, ← htx]
  | some t => rw [Option.map_some, if_neg (h t htx), ← htx]

/-- Settles O58, from the teardown record by record of `teardown_torn`. -/
theorem teardownEmptiesTheLink : Obligations.TeardownEmptiesTheLink := by
  intro s l r
  obtain ⟨v, e, torn, link, done⟩ := teardown_torn s l r
  obtain ⟨m1, m2, m3⟩ := torn.model
  dsimp only
  rw [e]
  refine ⟨fun i hi => ?_, torn.others, fun hr hp => ?_, link, torn.links, torn.ports, fun j hj => ?_, ?_, torn.free, torn.usage, torn.rx,
    torn.list, m1, m2, m3⟩
  · exact (torn.mine i hi).trans (if_pos (List.mem_finRange i))
  · obtain ⟨met, head, behind, ready⟩ := torn.turn (canWait_beside hr hp l)
    exact ⟨⟨met, head, behind, done⟩, ready⟩
  · rw [line_setLine_ne _ _ hj]; exact torn.lines j
  · rw [line_setLine]
    refine ⟨fun t ht ⟨seq, uncut, left⟩ => toldTeardown_cut ht (sequenced_iff.mpr seq) uncut left, fun whole => toldTeardown_uncut ?_⟩
    exact fun t ht ⟨seq, uncut, left⟩ => whole t ht ⟨sequenced_iff.mp seq, uncut, left⟩

end Sys2Proof.Machine
end

section
/-! SUPPORT. Every step keeps the law of the link records: the changes of a link that the frames, the commands, the expiries and the
arbiter make, and everything else that a step does, which leaves the links but for what the channel table keeps in them. -/

namespace Sys2Proof.Machine

/-! ## What a command meets when its action meets it -/

section Yields
variable {P : State → Prop} {s : State}

theorem yields_settled {o : StepOutcome} (hs : ∀ u, P u → P u.settle) (h : Yields o P) : Yields (settled o) P := by
  cases o with
  | next u => exact yields_next (hs u (h u rfl))
  | fault r => cases r
  | refused r => exact yields_refused r

/-- A command that ends a transaction (R150). -/
theorem yields_endTransaction {p : Slot} {n : Nat} {act : Txn → Option State} (h : P (s.riseIgnored p n))
    (ha : ∀ x u, act x = some u → P u) : Yields (s.endTransaction p n act) P := by
  unfold State.endTransaction
  split
  · exact yields_refused _
  split
  · exact yields_next h
  split
  · exact yields_next (ha _ _ ‹_›)
  · exact yields_refused _

/-- A command inside a transaction (R150). -/
theorem yields_midTransaction {p : Slot} {n : Nat} {act : Txn → Option State} (h : P s) (hp : ∀ x, P (s.setPort p x))
    (ha : ∀ x u, act x = some u → P u) : Yields (s.midTransaction p n act) P := by
  unfold State.midTransaction
  dsimp only
  split
  · exact yields_next h
  split
  · exact yields_next (hp _)
  split
  · exact yields_next (ha _ _ ‹_›)
  · exact yields_refused _

/-- A request: what its action, and the freeing of a message that it staged, have to meet (R154). -/
theorem yields_request {p : Slot} {row : Byte → Bool} {body : List Byte} {act : Action} (hp : ∀ u x, P u → P (u.setPort p x)) (h : P s)
    (hf : ∀ st, P (s.freeStaged p st)) (ha : ∀ hd st, P (act hd st s).1) : Yields (s.request p row body act) P := by
  refine yields_endTransaction (hp _ _ h) fun x u hu => ?_
  split at hu
  · rename_i hd st
    obtain ⟨-, hu⟩ := Option.ite_none_right_eq_some.mp hu
    cases hu
    refine hp _ _ (hp _ _ ?_)
    split
    · exact hf st
    · exact ha hd st
  · cases hu

/-- The taking of the oldest held frame (R146). -/
theorem yields_takeHeld {l : LinkId} {act : Frame → Option (State → State)} (hs : ∀ u, P u → P u.settle)
    (h : ∀ x, P (s.setLine l x)) (ha : ∀ f g, act f = some g → ∀ u, P u → P (g u)) : Yields (s.takeHeld l act) P := by
  unfold State.takeHeld
  split
  · split
    · exact yields_next (hs _ (ha _ _ ‹_› _ (h _)))
    · exact yields_refused _
  · exact yields_refused _

end Yields

/-! ## Changes of a link -/

theorem SameCore.state {s u : State} (h : SameCore s u) (l : LinkId) : (u.link l).state = (s.link l).state :=
  (congrArg Link.state (h l) :)

/-- The law of every link but one. -/
def State.OthersOk (s : State) (l : LinkId) : Prop := ∀ m, m ≠ l → (s.link m).Ok

theorem State.OthersOk.setLink {s : State} {l : LinkId} {k : Link} (h : s.OthersOk l) (hk : k.Ok) : (s.setLink l k).LinksOk := by
  intro m
  rw [link_setLink_ite]
  split
  · exact hk
  · exact h m ‹_›

namespace State.LinksOk
variable {s u : State} {l : LinkId}

theorem others (h : s.LinksOk) (l : LinkId) : s.OthersOk l := fun m _ => h m

theorem core (h : s.LinksOk) (e : SameCore s u) : u.LinksOk := fun l => Link.Ok.of_core (h l) (e l)

theorem setLink {k : Link} (h : s.LinksOk) (hk : k.Ok) : (s.setLink l k).LinksOk := (h.others l).setLink hk

theorem serve (h : s.LinksOk) : s.serve.LinksOk := h.core (SameCore.refl s).serve

theorem count (h : s.LinksOk) (l : LinkId) (f : Counters → Counters) : (s.count l f).LinksOk := h.setLink { h l with }

/-! ## Links that change their state -/

theorem teardown_others (h : s.LinksOk) (l : LinkId) (r : Reason) : (s.teardown l r).OthersOk l := fun m hm =>
  Link.Ok.of_core (h m) ((teardown_core s l r m).trans (by rw [link_setLink_ne _ _ hm]))

theorem teardown_torn (h : s.LinksOk) (l : LinkId) (r : Reason) : ((s.teardown l r).link l).Torn :=
  .of_core (h l) (teardown_link s l r)

/-- A link that is not UP falls (R31, R42, R44). -/
theorem fell (h : s.LinksOk) (hs : (s.link l).state ≠ .up) {st : LinkState} (r : Reason) {o : OwedLink} (hst : st = .down ∨ st = .failed)
    (ho : o.opn = false ∧ o.close = false) : (s.fell l st r o).LinksOk :=
  h.setLink (Link.fell_ok (h l).ranged ((h l).clear hs) r hst ho)

/-- A link that is UP is torn down and falls (R41, R43, R67). -/
theorem torn_fell (h : s.LinksOk) {st : LinkState} (r r' : Reason) {o : OwedLink} (hst : st = .down ∨ st = .failed)
    (ho : o.opn = false ∧ o.close = false) : ((s.teardown l r).fell l st r' o).LinksOk := by
  have others := h.teardown_others l r
  have torn := h.teardown_torn l r
  generalize s.teardown l r = t at others torn
  exact others.setLink (Link.fell_ok torn.toRanged torn.toClear r' hst ho)

/-- A link enters UP (R39). -/
theorem establish (h : s.LinksOk) (hs : (s.link l).state ≠ .stopping) (peer : Byte) (window : Nat) :
    (s.establish l peer (min (s.link l).par.windowOffer window)).LinksOk := by
  rw [establish_eq]
  exact h.setLink (Link.rose_ok (h l).ranged peer (min_le_left ..) ⟨rfl, (h l).owes_no_close hs⟩)

/-- A protocol reset (R45). -/
theorem protocolReset (h : s.LinksOk) (hs : (s.link l).state = .up) : (s.protocolReset l).LinksOk := by
  have others := h.teardown_others l .protocolError
  have torn := h.teardown_torn l .protocolError
  have close := (h l).owes_no_close (by simp [hs])
  rw [protocolReset_eq]
  generalize s.teardown l .protocolError = t at others torn
  exact others.setLink (torn.restarted_ok _ _ _ close)

/-! ## Acknowledgement and sequence -/

theorem idled (h : s.LinksOk) (l : LinkId) : (s.setLink l (s.link l).touchIdle).LinksOk := by
  rw [touchIdle_eq]; exact h.setLink (Link.idled_ok (h l))

theorem acknowledge (h : s.LinksOk) {nr : Seq} (hs : (s.link l).state = .up) (hn : (s.link l).nrValid nr = true) :
    (s.acknowledge l nr).LinksOk := by
  unfold State.acknowledge
  dsimp only
  split
  · exact h
  · rename_i h0
    have acked : ((s.freeTxMsgs (dataMsgs ((s.link l).rtx.take (nr - (s.link l).va).toNat))).setLink l ((s.link l).acked nr)).LinksOk :=
      State.LinksOk.setLink (s := s.freeTxMsgs _) h (Link.acked_ok (h l) hs h0 hn)
    refine serve (List.foldlRecOn (motive := State.LinksOk) _ _ acked fun u hu m _ => ?_)
    split <;> exact hu

/-- A frame that carries nr (R55): what it does in UP, after a valid nr, has to keep the law. -/
theorem withNr (h : s.LinksOk) {nr : Seq} {act : State → State}
    (ha : ∀ u : State, u.LinksOk → (u.link l).state = .up → (act u).LinksOk) : (s.withNr l nr act).LinksOk := by
  unfold State.withNr
  dsimp only
  split
  · exact h
  rename_i hs
  have up : ((s.setLink l (s.link l).touchIdle).link l).state = .up := ((touchIdle_same s l).state l).trans (not_not.mp hs)
  split
  · exact ha _ ((h.idled l).acknowledge up ‹_›) ((acknowledge_state ..).trans up)
  · exact (h.idled l).protocolReset up

theorem takeSequenced (h : s.LinksOk) {ns nr : Seq} {deliver : State → State}
    (hd : ∀ u : State, u.LinksOk → (u.link l).state = .up → (deliver u).LinksOk) : (s.takeSequenced l ns nr deliver).LinksOk := by
  refine h.withNr fun u hu up => ?_
  dsimp only
  split
  · exact hd _ (hu.setLink (Link.accepted_ok (hu l) up)) (((accepted_same u l).state l).trans up)
  · exact hu.setLink (Link.outOfSequence_ok (hu l) up)

/-! ## The channel table -/

theorem answer (h : s.LinksOk) (hs : (s.link l).state = .up) (a : Answer) : (s.answer l a).LinksOk :=
  h.setLink (Link.answers_ok (h l) hs (Link.pushAnswer_nodup a (h l).answers))

/-- A CHAN-OPEN refused and counted (R12). -/
theorem refused (h : s.LinksOk) (hs : (s.link l).state = .up) (dst src : ChanId) (r : Reason) :
    ((s.refuseOpen l dst src r).stray l).LinksOk := (h.answer hs _).count _ _

theorem deliverData (h : s.LinksOk) (dst src : ChanId) (payload : List Byte) : (s.deliverData l dst src payload).LinksOk := by
  unfold State.deliverData
  dsimp only
  split
  · split
    · exact h.core ((SameCore.refl s).place payload)
    · exact (h.count l _).core ((SameCore.refl _).abortChan.setPort _ _)
  · exact h.count _ _

theorem deliverOpen (h : s.LinksOk) (hs : (s.link l).state = .up) (dst src : ChanId) (w : Nat) : (s.deliverOpen l dst src w).LinksOk := by
  unfold State.deliverOpen
  dsimp only
  split
  · exact h.refused hs _ _ _
  · split
    · split
      · exact h.core ((SameCore.refl s).acceptOpen src w)
      · exact State.LinksOk.answer (s := s.setChan dst _) h hs _
    · exact h.refused hs _ _ _
  · split
    · exact h.core ((SameCore.refl s).crossOpen w)
    · exact h.refused hs _ _ _
  all_goals exact h.refused hs _ _ _

theorem deliverAccept (h : s.LinksOk) (dst src : ChanId) (w : Nat) : (s.deliverAccept l dst src w).LinksOk := by
  unfold State.deliverAccept
  dsimp only
  split
  · exact h.core ((SameCore.refl s).enterOpen w)
  · exact h.count _ _

theorem deliverRefuse (h : s.LinksOk) (dst src : ChanId) (r : Reason) : (s.deliverRefuse l dst src r).LinksOk := by
  unfold State.deliverRefuse
  dsimp only
  split
  · exact h.core ((SameCore.refl s).endChan r)
  split
  · exact h.core (SameCore.refl s).freeAborted
  · exact h.count _ _

/-- A CHAN-CLOSE ends or frees its record, or is counted as stray (Table 7-3). -/
theorem closeEffect_cases (s : State) (l : LinkId) (dst src : ChanId) (abort : Bool) :
    SameCore s (s.closeEffect l dst src abort) ∨ s.closeEffect l dst src abort = s.stray l := by
  have same := SameCore.refl s
  unfold State.closeEffect
  dsimp only
  split
  · split
    · exact .inl (same.endChan _)
    · exact .inl (same.endChan _)
    · split
      · exact .inl same
      · exact .inl (same.endChan _)
    · split
      · exact .inl same
      · exact .inl same.freeAborted
    all_goals exact .inr rfl
  · exact .inr rfl

theorem deliverClose (h : s.LinksOk) (hs : (s.link l).state = .up) (dst src : ChanId) (abort : Bool) :
    (s.deliverClose l dst src abort).LinksOk := by
  unfold State.deliverClose
  rcases closeEffect_cases s l dst src abort with e | e
  · exact (h.core e).answer ((e.state l).trans hs) _
  · rw [e]; exact (h.count l _).answer (((count_same s l _).state l).trans hs) _

theorem deliverClosed (h : s.LinksOk) (dst src : ChanId) : (s.deliverClosed l dst src).LinksOk := by
  unfold State.deliverClosed
  dsimp only
  split
  · split
    · exact h.core ((SameCore.refl s).endChan _)
    · exact h.core (SameCore.refl s).freeAborted
    all_goals exact h.count _ _
  · exact h.count _ _

theorem deliverCredit (h : s.LinksOk) (dst src : ChanId) (limit : Credit) : (s.deliverCredit l dst src limit).LinksOk := by
  unfold State.deliverCredit
  dsimp only
  split
  · split <;> exact h
  · exact h.count _ _

/-! ## The arbiter -/

/-- A new sequenced frame taken while the window is open (R53, R79). -/
theorem takeNew (h : s.LinksOk) (hs : (s.link l).state = .up) (hr : (s.link l).hasRoom) (dst src : ChanId) (b : EntryBody) :
    (s.takeNew l dst src b).LinksOk := by
  rw [takeNew_eq]
  exact h.setLink (Link.sent_ok (h l) hs hr dst src b)

theorem takeData (h : s.LinksOk) (hs : (s.link l).state = .up) (hr : (s.link l).hasRoom) (i : ChanId) (m : TxMsg) :
    (s.takeData l i m).LinksOk := by
  have taken := h.takeNew hs hr ((s.chan i).remote.getD 0) i (.data m)
  have served : ((s.takeNew l ((s.chan i).remote.getD 0) i (.data m)).setLink l
      (((s.takeNew l ((s.chan i).remote.getD 0) i (.data m)).link l).served (s.chan i).cls i)).LinksOk := by
    refine taken.setLink ?_
    cases (s.chan i).cls <;> exact { taken l with }
  unfold State.takeData
  dsimp only
  split
  · exact served.core (.setOwed (.setChan (.refl _) _) _)
  · exact served

theorem take (h : s.LinksOk) {t : Taking} (ht : s.Takeable l t) : (s.take l t).LinksOk := by
  have stamp := Link.stamp_ok (h l)
  cases t with
  | link f => exact h.setLink (Link.removed_ok (h l) f)
  | statusFrame => exact h.setLink (Link.owedSup_ok stamp ht.1 rfl id)
  | resend => exact h.setLink (Link.owedSup_ok stamp ht.1 rfl nofun)
  | retransmit e => exact h.setLink { Link.advanced_ok stamp with }
  | answer a =>
    refine State.LinksOk.takeNew (h.setLink (Link.answers_ok (h l) ht.1 ?_)) (by simpa using ht.1) (by simpa [Link.hasRoom] using ht.2.1) _ _ _
    exact (h l).answers.sublist ((List.tail_sublist _).map _)
  | ready i m => exact (h.takeNew ht.1 ht.2.1 _ i _).core (.setLink (.setChan (.refl _) _) rfl)
  | data i m => exact h.takeData ht.1 ht.2.1 i m
  | plainStatus => exact h.setLink stamp

theorem arbitrate (h : s.LinksOk) (l : LinkId) : (s.arbitrate l).LinksOk := by
  unfold State.arbitrate
  dsimp only
  split
  · split
    · exact h.take (choose_takeable ‹_›)
    · exact h
  · exact h

theorem settle (h : s.LinksOk) : s.settle.LinksOk := (h.arbitrate 0).arbitrate 1

/-! ## Link frames -/

/-- A duplicate LINK-OPEN, or a peer restart (R40). -/
theorem openInUp (h : s.LinksOk) (hs : (s.link l).state = .up) (sender : Byte) (window : Nat) : (s.openInUp l sender window).LinksOk := by
  have close := (h l).owes_no_close (by simp [hs])
  by_cases hp : (s.link l).peerEpoch = some sender
  · have duplicate : s.openInUp l sender window = s.setLink l (s.link l).touchIdle.oweAccept := if_pos hp
    rw [duplicate, touchIdle_eq]
    exact h.setLink (Link.owedLink_ok (Link.idled_ok (h l)) id id)
  · have others := h.teardown_others l .peerRestart
    have torn := h.teardown_torn l .peerRestart
    have par := teardown_par s l .peerRestart
    rw [openInUp_restarts window hp]
    generalize s.teardown l .peerRestart = t at others torn par
    have risen := Link.rose_ok (o := { (s.link l).owedLink with opn := false, accept := true }) torn.toRanged sender
      (agreed := min (s.link l).par.windowOffer window) (by rw [par]; exact min_le_left ..) ⟨rfl, close⟩
    exact others.setLink { risen with }

theorem takeLinkOpen (h : s.LinksOk) (sender : Byte) (window : Nat) : (s.takeLinkOpen l sender window).LinksOk := by
  have risen (hs : (s.link l).state ≠ .stopping) :
      ((s.establish l sender (min (s.link l).par.windowOffer window)).setLink l
        ((s.establish l sender (min (s.link l).par.windowOffer window)).link l).oweAccept).LinksOk := by
    have up := h.establish hs sender window
    exact up.setLink (Link.owedLink_ok (up l) id id)
  unfold State.takeLinkOpen
  dsimp only
  split <;> rename_i hs
  · exact risen (by simp [hs])
  · exact risen (by simp [hs])
  · exact h.openInUp hs _ _
  all_goals exact h

theorem takeLinkAccept (h : s.LinksOk) (echoed sender : Byte) (window : Nat) : (s.takeLinkAccept l echoed sender window).LinksOk := by
  unfold State.takeLinkAccept
  dsimp only
  split <;> rename_i hs
  · split
    · exact h.establish (by simp [hs]) _ _
    · exact h
  · exact h.idled l
  all_goals exact h

theorem takeLinkClose (h : s.LinksOk) : (s.takeLinkClose l).LinksOk := by
  cases hs : (s.link l).state with
  | up => rw [takeLinkClose_up hs]; exact h.torn_fell _ _ (.inl rfl) ⟨(h l).owes_no_open (by simp [hs]), (h l).owes_no_close (by simp [hs])⟩
  | stopping =>
    rw [takeLinkClose_stopping hs]
    exact h.fell (by simp [hs]) _ (.inl rfl) ⟨(h l).owes_no_open (by simp [hs]), rfl⟩
  | down | listening | starting | failed =>
    rw [takeLinkClose_elsewhere (by simp [hs])]
    exact h.setLink (Link.owedLink_ok (h l) id id)

/-- A stop completes (R42). -/
theorem completeStop (h : s.LinksOk) (hs : (s.link l).state = .stopping) (r : Reason) : (s.completeStop l r).LinksOk := by
  rw [completeStop_eq]
  exact h.fell (by simp [hs]) _ (.inl rfl) ⟨(h l).owes_no_open (by simp [hs]), rfl⟩

theorem takeLinkClosed (h : s.LinksOk) : (s.takeLinkClosed l).LinksOk := by
  unfold State.takeLinkClosed
  split <;> rename_i hs
  · exact h.completeStop hs _
  · exact h.idled l
  all_goals exact h

/-! ## Line-ready and expiries -/

/-- A link that is STARTING or UP fails (R36, R43, R67). -/
theorem enterFailed (h : s.LinksOk) (hs : (s.link l).state = .starting) (r : Reason) : (s.enterFailed l r).LinksOk := by
  rw [enterFailed_eq]
  exact h.fell (by simp [hs]) _ (.inr rfl) ⟨rfl, (h l).owes_no_close (by simp [hs])⟩

theorem torn_enterFailed (h : s.LinksOk) (hs : (s.link l).state = .up) (r r' : Reason) : ((s.teardown l r).enterFailed l r').LinksOk := by
  rw [enterFailed_eq, teardown_owedLink]
  exact h.torn_fell _ _ (.inr rfl) ⟨rfl, (h l).owes_no_close (by simp [hs])⟩

theorem lineLost (h : s.LinksOk) (l : LinkId) : (s.lineLost l).LinksOk := by
  unfold State.lineLost
  split <;> rename_i hs
  · exact h.enterFailed hs _
  · exact h.torn_enterFailed hs _ _
  · exact h.completeStop hs _
  all_goals exact h

theorem respExpired (h : s.LinksOk) (hr : (s.link l).tResp.isSome = true) : (s.respExpired l).LinksOk := by
  unfold State.respExpired
  dsimp only
  split <;> rename_i hs
  · split
    · exact h.enterFailed hs _
    · exact h.setLink (Link.retried_ok (h l) (.inl hs) ‹_› (fun _ => hs) (h l).owedClose)
  · split
    · exact h.completeStop hs _
    · exact h.setLink (Link.retried_ok (h l) (.inr hs) ‹_› (h l).owedOpen fun _ => hs)
  · split
    · exact h.torn_enterFailed hs _ _
    · exact h.setLink (Link.repolled_ok (h l) hs hr ‹_›)
  all_goals exact h

/-! ## Commands of a link -/

theorem stopLink (h : s.LinksOk) : (s.stopLink l).LinksOk := by
  cases hs : (s.link l).state with
  | listening | failed =>
    rw [stopLink_falls (by simp [hs])]
    exact h.fell (by simp [hs]) _ (.inl rfl) ⟨(h l).owes_no_open (by simp [hs]), (h l).owes_no_close (by simp [hs])⟩
  | starting =>
    rw [stopLink_starting hs]
    exact h.fell (by simp [hs]) _ (.inl rfl) ⟨rfl, (h l).owes_no_close (by simp [hs])⟩
  | up =>
    have others := h.teardown_others l .stopped
    have torn := h.teardown_torn l .stopped
    have owed := teardown_owedLink s l .stopped
    rw [stopLink_up hs]
    generalize s.teardown l .stopped = t at others torn owed
    exact others.setLink (torn.stopping_ok _ ((congrArg OwedLink.opn owed).trans ((h l).owes_no_open (by simp [hs]))))
  | down | stopping =>
    have none : s.stopLink l = s := by simp only [State.stopLink, hs]
    rw [none]; exact h

theorem startLink (h : s.LinksOk) (hs : (s.link l).state = .down ∨ (s.link l).state = .failed) (p : Slot) {q : Params}
    (hq : q.inRange = true) : (s.startLink p l q).LinksOk :=
  h.setLink (Link.started_ok (h l) hs p hq)

theorem doLinkStart (h : s.LinksOk) (p : Slot) (body : List Byte) (hd : ReqHeader) (st : Staging) :
    (State.doLinkStart p body hd st s).1.LinksOk := by
  unfold State.doLinkStart
  split
  · exact h
  rename_i good
  have range : (startParams body).inRange = true := by
    by_contra e; exact good (startBadArg_iff.mpr (.inr (by simpa using e)))
  split
  · exact h
  dsimp only
  split <;> rename_i hs
  all_goals first | exact h | exact h.startLink (.inl hs) p range | skip
  split
  · exact h.startLink (.inr hs) p range
  · exact h

theorem doLinkStop (h : s.LinksOk) (p : Slot) (body : List Byte) (hd : ReqHeader) (st : Staging) :
    (State.doLinkStop p body hd st s).1.LinksOk := by
  unfold State.doLinkStop
  split
  · exact h
  dsimp only
  split
  · exact h
  split
  · exact h
  · exact h.stopLink

theorem doLinkClaim (h : s.LinksOk) (p : Slot) (body : List Byte) (hd : ReqHeader) (st : Staging) :
    (State.doLinkClaim p body hd st s).1.LinksOk := by
  unfold State.doLinkClaim
  split
  · exact h
  rename_i l _
  dsimp only
  split
  · exact h
  rename_i hs
  split
  · exact h.setLink { h l with vacant := fun e => absurd e hs }
  · split <;> exact h

/-- A controller role given up (R34). -/
theorem vacate (h : s.LinksOk) (p : Slot) (l : LinkId) : (s.vacate p l).LinksOk := by
  have vacant : (s.setLink l { s.link l with controller := none }).LinksOk := h.setLink { h l with vacant := fun _ => rfl }
  unfold State.vacate
  dsimp only
  split
  · split
    · exact vacant
    · intro m; rw [postOthers_link]; exact vacant m
  · exact h

theorem endSession (h : s.LinksOk) (p : Slot) : (s.endSession p).LinksOk := by
  have vacated := ((h.core (endSessionRecords_core s p)).vacate p 0).vacate p 1
  unfold State.endSession
  generalize ((s.endSessionRecords p).vacate p 0).vacate p 1 = t at vacated
  exact vacated

end State.LinksOk
end Sys2Proof.Machine
end

section
/-! SUPPORT. Every step keeps the law of the link records, command by command. -/

namespace Sys2Proof.Machine

namespace State.LinksOk
variable {s u : State} {l : LinkId}

/-! ## Host requests -/

theorem freeStaged (h : s.LinksOk) (p : Slot) (st : Staging) : (s.freeStaged p st).LinksOk := by
  cases st with
  | granted n => exact State.LinksOk.serve (s := s.setPool _) h
  | none | refused _ => exact h

theorem request (h : s.LinksOk) {p : Slot} {row : Byte → Bool} {body : List Byte} {act : Action}
    (ha : ∀ hd st, (act hd st s).1.LinksOk) : Yields (s.request p row body act) State.LinksOk :=
  yields_request (fun _ _ hu => hu) h (h.freeStaged p) ha

/-- A request whose action may make a frame takeable. -/
theorem settledRequest (h : s.LinksOk) {p : Slot} {row : Byte → Bool} {body : List Byte} {act : Action}
    (ha : ∀ hd st, (act hd st s).1.LinksOk) : Yields (settled (s.request p row body act)) State.LinksOk :=
  yields_settled (fun _ hu => settle hu) (h.request ha)

theorem doAttach (h : s.LinksOk) (p : Slot) (hd : ReqHeader) (st : Staging) : (State.doAttach p hd st s).1.LinksOk := by
  unfold State.doAttach; split <;> exact h

theorem doLinkQuery (h : s.LinksOk) (body : List Byte) (hd : ReqHeader) (st : Staging) : (State.doLinkQuery body hd st s).1.LinksOk := by
  unfold State.doLinkQuery; split <;> exact h

theorem doChQuery (h : s.LinksOk) (body : List Byte) (hd : ReqHeader) (st : Staging) : (State.doChQuery body hd st s).1.LinksOk := by
  unfold State.doChQuery; split <;> exact h

theorem doChListen (h : s.LinksOk) (p : Slot) (body : List Byte) (hd : ReqHeader) (st : Staging) :
    (State.doChListen p body hd st s).1.LinksOk := by
  unfold State.doChListen
  dsimp only
  split
  · exact h
  · split <;> exact h

theorem doChOpen (h : s.LinksOk) (p : Slot) (body : List Byte) (hd : ReqHeader) (st : Staging) :
    (State.doChOpen p body hd st s).1.LinksOk := by
  unfold State.doChOpen
  dsimp only
  split
  · exact h
  split
  · exact h
  · exact h
  split
  · exact h
  split
  · exact h
  · exact h.core ((SameCore.refl s).openRecord _ _)

theorem doChClose (h : s.LinksOk) (p : Slot) (body : List Byte) (hd : ReqHeader) (st : Staging) :
    (State.doChClose p body hd st s).1.LinksOk := by
  unfold State.doChClose
  split
  · exact h
  split
  · exact h
  · exact h.core (SameCore.refl s).closeRecord

theorem doChRelease (h : s.LinksOk) (p : Slot) (body : List Byte) (hd : ReqHeader) (st : Staging) :
    (State.doChRelease p body hd st s).1.LinksOk := by
  unfold State.doChRelease
  split
  · exact h
  dsimp only
  split
  · exact h
  · exact h.core (SameCore.refl s).giveUp

theorem doSend (h : s.LinksOk) (p : Slot) (body : List Byte) (hd : ReqHeader) (st : Staging) : (State.doSend p body hd st s).1.LinksOk := by
  unfold State.doSend
  split
  · exact h.freeStaged p st
  · exact h

theorem doRecv (h : s.LinksOk) (p : Slot) (body : List Byte) (hd : ReqHeader) (st : Staging) : (State.doRecv p body hd st s).1.LinksOk := by
  unfold State.doRecv
  split
  · exact h
  dsimp only
  split
  · exact h
  split
  · exact h
  · exact h.core (SameCore.grant (.setChan (.refl s) _))

/-! ## Transactions and resets -/

theorem execTransactionCode (h : s.LinksOk) (p : Slot) (code : Byte) : Yields (Machine.execTransactionCode p code s) State.LinksOk := by
  refine yields_midTransaction h (fun _ => h) fun x u e => ?_
  split at e <;> cases e
  exact h

theorem execWriteRequestHeader (h : s.LinksOk) (p : Slot) (tag code : Byte) (len : Byte × Byte) :
    Yields (Machine.execWriteRequestHeader p tag code len s) State.LinksOk := by
  have claim (n : Nat) : (s.stagingClaim p n).1.LinksOk := by
    unfold State.stagingClaim
    dsimp only
    split
    · exact h
    · split <;> exact h
  unfold Machine.execWriteRequestHeader
  dsimp only
  refine yields_midTransaction h (fun _ => h) fun x u e => ?_
  split at e
  · split at e <;> cases e
    · exact h
    · intro m
      rw [link_setPort]
      split
      · exact claim _ m
      · exact h m
  · cases e

theorem execStatusTransaction (h : s.LinksOk) (p : Slot) (n : Nat) : Yields (Machine.execStatusTransaction p n s) State.LinksOk := by
  refine yields_endTransaction h fun x u e => ?_
  split at e <;> cases e
  exact h

theorem removeResponse (h : s.LinksOk) (p : Slot) (r : Response) : (s.removeResponse p r).LinksOk := by
  unfold State.removeResponse
  dsimp only
  split
  · exact State.LinksOk.serve (s := (s.updPort p _).freeRxMsgs _) h
  · exact h

theorem execReadResponse (h : s.LinksOk) (p : Slot) (n : Nat) : Yields (Machine.execReadResponse p n s) State.LinksOk := by
  refine yields_settled (fun _ hu => settle hu) (yields_endTransaction h fun x u e => ?_)
  split at e <;> cases e
  · exact h
  · intro m
    split
    · exact h.removeResponse p _ m
    · exact h m

theorem execReadEvent (h : s.LinksOk) (p : Slot) (n : Nat) : Yields (Machine.execReadEvent p n s) State.LinksOk := by
  refine yields_endTransaction h fun x u e => ?_
  split at e <;> cases e
  · exact h
  · intro m; split <;> exact h m

theorem execIgnoredTransactionEnd (h : s.LinksOk) (p : Slot) (n : Nat) :
    Yields (Machine.execIgnoredTransactionEnd p n s) State.LinksOk := by
  refine yields_endTransaction h fun x u e => ?_
  split at e <;> cases e
  all_goals exact h

theorem execChipSelectFalls (h : s.LinksOk) (p : Slot) : Yields (Machine.execChipSelectFalls p s) State.LinksOk := by
  unfold Machine.execChipSelectFalls
  dsimp only
  split
  · exact yields_refused _
  split
  · exact yields_next h
  split
  all_goals exact yields_next h

theorem resetPort (h : s.LinksOk) (p : Slot) : (s.resetPort p).LinksOk := by
  have staged := h.freeStaged p (s.port p).txn.staging
  have ended : (if ((s.freeStaged p (s.port p).txn.staging).port p).session = .attached then
      (s.freeStaged p (s.port p).txn.staging).endSession p else s.freeStaged p (s.port p).txn.staging).LinksOk := by
    split
    · exact staged.endSession p
    · exact staged
  unfold State.resetPort
  dsimp only
  generalize (if ((s.freeStaged p (s.port p).txn.staging).port p).session = .attached then
      (s.freeStaged p (s.port p).txn.staging).endSession p else s.freeStaged p (s.port p).txn.staging) = t at ended
  exact State.LinksOk.serve (s := t.freeRxMsgs _) ended

theorem execHostPortReset (h : s.LinksOk) (p : Slot) : Yields (Machine.execHostPortReset p s) State.LinksOk := by
  unfold Machine.execHostPortReset
  split
  · exact yields_next h
  · exact yields_next (h.resetPort p).settle

theorem execHostPortResetRelease (h : s.LinksOk) (p : Slot) : Yields (Machine.execHostPortResetRelease p s) State.LinksOk := by
  unfold Machine.execHostPortResetRelease
  split
  · exact yields_refused _
  split
  all_goals exact yields_next h

theorem execDeviceResetRelease (h : s.LinksOk) : Yields (Machine.execDeviceResetRelease s) State.LinksOk := by
  unfold Machine.execDeviceResetRelease
  split
  · exact yields_next h
  · exact yields_refused _

/-! ## Line events and expiries -/

theorem receiveLevels (h : s.LinksOk) (l : LinkId) (levels : List Bool) : (s.receiveLevels l levels).LinksOk := by
  unfold State.receiveLevels
  dsimp only
  split
  · exact h
  refine List.foldlRecOn (motive := State.LinksOk) _ _ h fun u hu c _ => ?_
  unfold State.receiveChar
  dsimp only
  split
  · exact State.LinksOk.count (s := u.setLine l _) hu l _
  · exact hu

theorem execLineReadyDeasserted (h : s.LinksOk) (l : LinkId) : Yields (Machine.execLineReadyDeasserted l s) State.LinksOk := by
  have kept : (s.keepSample l false).LinksOk := h
  unfold Machine.execLineReadyDeasserted
  dsimp only
  split
  · exact yields_next (kept.lineLost l).settle
  · exact yields_next kept

theorem execTransmitComplete (h : s.LinksOk) (l : LinkId) : Yields (Machine.execTransmitComplete l s) State.LinksOk := by
  unfold Machine.execTransmitComplete
  split
  · split
    · exact yields_refused _
    · exact yields_next (State.LinksOk.count (s := s.freeTransmitter l) h l _).settle
  · exact yields_refused _

theorem execTruncationComplete (h : s.LinksOk) (l : LinkId) : Yields (Machine.execTruncationComplete l s) State.LinksOk := by
  unfold Machine.execTruncationComplete
  split
  · split
    · exact yields_next (State.LinksOk.settle (s := s.freeTransmitter l) h)
    · exact yields_refused _
  · exact yields_refused _

theorem execTAckExpiry (h : s.LinksOk) (l : LinkId) : Yields (Machine.execTAckExpiry l s) State.LinksOk := by
  unfold Machine.execTAckExpiry
  dsimp only
  split
  · rename_i hd
    exact yields_next (h.setLink (Link.ackExpired_ok (h l) (by rw [due_iff.mp hd]; rfl))).settle
  · exact yields_next h

theorem execTRespExpiry (h : s.LinksOk) (l : LinkId) : Yields (Machine.execTRespExpiry l s) State.LinksOk := by
  unfold Machine.execTRespExpiry
  split
  · rename_i hd
    exact yields_next (h.respExpired (by rw [due_iff.mp hd]; rfl)).settle
  · exact yields_next h

theorem execTIdleExpiry (h : s.LinksOk) (l : LinkId) : Yields (Machine.execTIdleExpiry l s) State.LinksOk := by
  unfold Machine.execTIdleExpiry
  dsimp only
  split
  · rename_i hd
    have runs : (s.link l).tIdle.isSome = true := by rw [due_iff.mp hd]; rfl
    exact yields_next (h.setLink (Link.idleExpired_ok (h l) runs)).settle
  · exact yields_next h

theorem tick (h : s.LinksOk) : s.tick.LinksOk := by
  unfold State.tick
  split
  · exact h
  · intro l
    have e := Link.tick_ok (h l)
    simpa [State.link] using e

/-! ## Received frames -/

theorem takeHeld (h : s.LinksOk) {act : Frame → Option (State → State)}
    (ha : ∀ f g, act f = some g → ∀ u : State, u.LinksOk → (g u).LinksOk) : Yields (s.takeHeld l act) State.LinksOk :=
  yields_takeHeld (fun _ hu => settle hu) (fun _ => h) ha

theorem takeHeldSequenced (h : s.LinksOk) {deliver : ChanId → ChanId → Content → Option (State → State)}
    (hd : ∀ dst src c g, deliver dst src c = some g → ∀ u : State, u.LinksOk → (u.link l).state = .up → (g u).LinksOk) :
    Yields (s.takeHeldSequenced l deliver) State.LinksOk := by
  refine h.takeHeld fun f g hg u hu => ?_
  split at hg
  · obtain ⟨d, hd', rfl⟩ := Option.map_eq_some_iff.mp hg
    exact hu.takeSequenced (hd _ _ _ _ hd')
  · cases hg

theorem execLinkOpen (h : s.LinksOk) : Yields (Machine.execLinkOpen l s) State.LinksOk := by
  refine h.takeHeld fun f g hg u hu => ?_
  split at hg <;> cases hg
  exact hu.takeLinkOpen _ _

theorem execLinkAccept (h : s.LinksOk) : Yields (Machine.execLinkAccept l s) State.LinksOk := by
  refine h.takeHeld fun f g hg u hu => ?_
  split at hg <;> cases hg
  exact hu.takeLinkAccept _ _ _

theorem execLinkClose (h : s.LinksOk) : Yields (Machine.execLinkClose l s) State.LinksOk := by
  refine h.takeHeld fun f g hg u hu => ?_
  split at hg <;> cases hg
  exact hu.takeLinkClose

theorem execLinkClosed (h : s.LinksOk) : Yields (Machine.execLinkClosed l s) State.LinksOk := by
  refine h.takeHeld fun f g hg u hu => ?_
  split at hg <;> cases hg
  exact hu.takeLinkClosed

theorem execStatus (h : s.LinksOk) : Yields (Machine.execStatus l s) State.LinksOk := by
  refine h.takeHeld fun f g hg u hu => ?_
  split at hg <;> cases hg
  exact hu.withNr fun v hv up => hv.setLink (Link.takeStatusFlags_ok (hv l) up _ _)

theorem execResend (h : s.LinksOk) : Yields (Machine.execResend l s) State.LinksOk := by
  refine h.takeHeld fun f g hg u hu => ?_
  split at hg <;> cases hg
  exact hu.withNr fun v hv up => hv.setLink (Link.takeResend_ok (hv l) up)

theorem execData (h : s.LinksOk) : Yields (Machine.execData l s) State.LinksOk := by
  refine h.takeHeldSequenced fun dst src c g hg u hu _ => ?_
  split at hg <;> cases hg
  exact hu.deliverData dst src _

theorem execChanOpen (h : s.LinksOk) : Yields (Machine.execChanOpen l s) State.LinksOk := by
  refine h.takeHeldSequenced fun dst src c g hg u hu up => ?_
  split at hg <;> cases hg
  exact hu.deliverOpen up dst src _

theorem execChanAccept (h : s.LinksOk) : Yields (Machine.execChanAccept l s) State.LinksOk := by
  refine h.takeHeldSequenced fun dst src c g hg u hu _ => ?_
  split at hg <;> cases hg
  exact hu.deliverAccept dst src _

theorem execChanRefuse (h : s.LinksOk) : Yields (Machine.execChanRefuse l s) State.LinksOk := by
  refine h.takeHeldSequenced fun dst src c g hg u hu _ => ?_
  split at hg <;> cases hg
  exact hu.deliverRefuse dst src _

theorem execChanClose (h : s.LinksOk) : Yields (Machine.execChanClose l s) State.LinksOk := by
  refine h.takeHeldSequenced fun dst src c g hg u hu up => ?_
  split at hg <;> cases hg
  exact hu.deliverClose up dst src _

theorem execChanClosed (h : s.LinksOk) : Yields (Machine.execChanClosed l s) State.LinksOk := by
  refine h.takeHeldSequenced fun dst src c g hg u hu _ => ?_
  split at hg <;> cases hg
  exact hu.deliverClosed dst src

theorem execChanCredit (h : s.LinksOk) : Yields (Machine.execChanCredit l s) State.LinksOk := by
  refine h.takeHeldSequenced fun dst src c g hg u hu _ => ?_
  split at hg <;> cases hg
  exact hu.deliverCredit dst src _

/-! ## The rows of the table -/

/-- Every command keeps the law of the link records. -/
theorem exec (h : s.LinksOk) (c : Instr) : Yields (Machine.exec c s) State.LinksOk := by
  cases c with
  | attach p body => exact (h.request (h.doAttach p) : Yields (Machine.execAttach p body s) _)
  | detach p body => exact h.settledRequest fun _ _ => h.endSession p
  | linkStart p body => exact h.settledRequest (h.doLinkStart p body)
  | linkStop p body => exact h.settledRequest (h.doLinkStop p body)
  | linkClaim p body => exact (h.request (h.doLinkClaim p body) : Yields (Machine.execLinkClaim p body s) _)
  | linkQuery p body => exact (h.request (h.doLinkQuery body) : Yields (Machine.execLinkQuery p body s) _)
  | chListen p body => exact (h.request (h.doChListen p body) : Yields (Machine.execChListen p body s) _)
  | chOpen p body => exact h.settledRequest (h.doChOpen p body)
  | chClose p body => exact h.settledRequest (h.doChClose p body)
  | chRelease p body => exact h.settledRequest (h.doChRelease p body)
  | chQuery p body => exact (h.request (h.doChQuery body) : Yields (Machine.execChQuery p body s) _)
  | send p body => exact h.settledRequest (h.doSend p body)
  | recv p body => exact h.settledRequest (h.doRecv p body)
  | poolQuery p body => exact (h.request fun _ _ => h : Yields (Machine.execPoolQuery p body s) _)
  | unknownCommand p body => exact (h.request fun _ _ => h : Yields (Machine.execUnknownCommand p body s) _)
  | transactionCode p code => exact h.execTransactionCode p code
  | statusTransaction p n => exact h.execStatusTransaction p n
  | writeRequestHeader p tag code len => exact h.execWriteRequestHeader p tag code len
  | readResponse p n => exact h.execReadResponse p n
  | readEvent p n => exact h.execReadEvent p n
  | hostPortReset p => exact h.execHostPortReset p
  | hostPortResetRelease p => exact h.execHostPortResetRelease p
  | deviceReset => exact yields_next reset_linksOk
  | deviceResetRelease => exact h.execDeviceResetRelease
  | lineReadyDeasserted l => exact h.execLineReadyDeasserted l
  | frameBodyStart l b => exact yields_next (h.receiveLevels l _)
  | frameEnd l => exact yields_next (h.receiveLevels l _)
  | transmitComplete l => exact h.execTransmitComplete l
  | truncationComplete l => exact h.execTruncationComplete l
  | linkOpen l => exact h.execLinkOpen
  | linkAccept l => exact h.execLinkAccept
  | linkClose l => exact h.execLinkClose
  | linkClosed l => exact h.execLinkClosed
  | status l => exact h.execStatus
  | resend l => exact h.execResend
  | data l => exact h.execData
  | chanOpen l => exact h.execChanOpen
  | chanAccept l => exact h.execChanAccept
  | chanRefuse l => exact h.execChanRefuse
  | chanClose l => exact h.execChanClose
  | chanClosed l => exact h.execChanClosed
  | chanCredit l => exact h.execChanCredit
  | tAckExpiry l => exact h.execTAckExpiry l
  | tRespExpiry l => exact h.execTRespExpiry l
  | tIdleExpiry l => exact h.execTIdleExpiry l
  | chipSelectFalls p => exact h.execChipSelectFalls p
  | ignoredTransactionEnd p n => exact h.execIgnoredTransactionEnd p n
  | huntDelimiter l => exact yields_next (h.receiveLevels l _)
  | bodyCharacter l levels => exact yields_next (h.receiveLevels l _)
  | lineReadyAsserted l => exact yields_next h

end State.LinksOk

/-- Settles O6: every command keeps the law, and a tick starts and stops no timer. -/
theorem stepKeepsLinks : Obligations.StepKeepsLinks := by
  intro s t h
  unfold step
  split
  · rename_i c rest _
    exact State.LinksOk.exec (s := { s with pending := rest }) h c t
  · exact yields_next h.tick t

end Sys2Proof.Machine
end

section
/-! SUPPORT. The sequenced delivery of a link: an acknowledgement (R57, R58, R93, R113), what STATUS and RESEND do after their nr (R63,
R69, R70), and the stamp that every frame with nr takes with it (R54). -/

namespace Sys2Proof.Machine

/-! ## Acknowledgement -/

/-- MSG-SENT posted in order for the messages of a list with the notify flag (R113). -/
def State.postSent (s : State) (l : LinkId) (ms : List TxMsg) : State :=
  ms.foldl (fun s m => if m.notify then s.postTo m.slot (msgSentEvent l m) else s) s

theorem postSent_cons (s : State) (l : LinkId) (m : TxMsg) (ms : List TxMsg) :
    s.postSent l (m :: ms) = (if m.notify then s.postTo m.slot (msgSentEvent l m) else s).postSent l ms := rfl

theorem postSent_frame (s : State) (l : LinkId) (ms : List TxMsg) : s.postSent l ms = { s with ports := (s.postSent l ms).ports } := by
  refine List.foldlRecOn (motive := fun u : State => u = { s with ports := u.ports }) ms _ rfl fun u hu m _ => ?_
  split
  · rw [hu]; rfl
  · exact hu

/-- Each port takes the events of the messages charged to its slot, in their order. -/
theorem postSent_port (s : State) (l : LinkId) (ms : List TxMsg) (p : Slot) : (s.postSent l ms).port p =
    ((ms.filter fun m => m.notify && m.slot = p).map (msgSentEvent l)).foldl HostPort.post (s.port p) := by
  induction ms generalizing s with
  | nil => rfl
  | cons m ms ih =>
    rw [postSent_cons, ih]
    by_cases hm : m.notify = true
    · by_cases hp : m.slot = p
      · simp [hm, hp, postTo_port]
      · simp [hm, hp, postTo_port, Ne.symm hp]
    · simp [hm]

/-- An nr that acknowledges something: the entries leave the list, their messages are freed, MSG-SENT is posted, and the credit-owed
list is served last. -/
theorem acknowledge_eq {s : State} {l : LinkId} {nr : Seq} {ms : List TxMsg} (h : (s.link l).ackCount nr ≠ 0)
    (hms : ms = dataMsgs ((s.link l).rtx.take ((s.link l).ackCount nr))) :
    s.acknowledge l nr = (((s.freeTxMsgs ms).setLink l ((s.link l).acked nr)).postSent l ms).serve := by
  subst hms; exact if_neg h

/-- Settles O56: the freeing and the link record are read before the posts, which change ports alone. -/
theorem acknowledgementFreesEntries : Obligations.AcknowledgementFreesEntries := by
  intro s l nr k n rest ms
  refine ⟨fun h => if_pos h, fun h => ⟨_, acknowledge_eq (ms := ms) (Nat.ne_of_gt h) rfl, ?_⟩⟩
  obtain ⟨free, usage, rx, reserved, owed⟩ := freeTxMsgs_pool s ms
  have ports := postSent_port ((s.freeTxMsgs ms).setLink l (k.acked nr)) l ms
  have frame := postSent_frame ((s.freeTxMsgs ms).setLink l (k.acked nr)) l ms
  generalize ((s.freeTxMsgs ms).setLink l (k.acked nr)).postSent l ms = w at ports frame ⊢
  refine ⟨?_, fun j hj => ?_, ports, ?_⟩
  · rw [frame]; exact (link_setLink ..).trans (Link.acked_eq k nr)
  · rw [frame]; exact link_setLink_ne _ _ hj
  · rw [frame]; exact ⟨free, usage, rx, reserved, owed, rfl, rfl, rfl, rfl, rfl⟩

/-! ## STATUS and RESEND after their nr -/

namespace Link
variable {k : Link}

/-- A link record after the poll flag of a STATUS: ANSWER is added when it is set (R69). -/
def polled (k : Link) (poll : Bool) : Link := { k with owedSup := { k.owedSup with answer := k.owedSup.answer || poll } }

/-- The poll flag of a STATUS is taken first, and then its answer flag (R69, R70). -/
theorem takeStatusFlags_eq (k : Link) (poll answer : Bool) :
    k.takeStatusFlags poll answer = if answer then (k.polled poll).takeAnswerFlag else k.polled poll := by
  cases poll
  · simp [takeStatusFlags, polled]
  · simp [takeStatusFlags, polled, takePollFlag]

/-- An answer while no poll is outstanding is ignored (R70). -/
theorem takeAnswerFlag_unasked (h : k.pollOutstanding = false) : k.takeAnswerFlag = k :=
  if_neg (by simp [h])

/-- An answered poll with nothing unacknowledged (R70). -/
theorem takeAnswerFlag_idle (h : k.pollOutstanding = true) (hr : k.rtx = []) : k.takeAnswerFlag = { k with
    owedSup := { k.owedSup with poll := false }, pollOutstanding := false, retry := 0, tResp := none
    tIdle := if k.par.tIdle = 0 then none else some k.par.tIdle } :=
  (if_pos h).trans (if_pos (by simp [hr]))

/-- An answered poll with frames unacknowledged starts a pass (R70, R64). -/
theorem takeAnswerFlag_pass (h : k.pollOutstanding = true) (hr : k.rtx ≠ []) : k.takeAnswerFlag = { k with
    owedSup := { k.owedSup with poll := false }, pollOutstanding := false, retry := 0
    goBack := some { pointer := k.va, start := k.va }, tResp := some k.par.tResp } :=
  (if_pos h).trans (if_neg (by simp [hr]))

/-- A RESEND with nothing unacknowledged (R63). -/
theorem takeResend_idle (hr : k.rtx = []) : k.takeResend = k := if_pos (by simp [hr])

/-- A RESEND while a pass that started at V(a) is under way (R63). -/
theorem takeResend_underWay {g : GoBack} (hr : k.rtx ≠ []) (hg : k.goBack = some g) (hs : g.start = k.va) :
    k.takeResend = { k with tResp := some k.par.tResp } :=
  (if_neg (by simp [hr])).trans (if_pos (by simp [hg, hs]))

/-- A RESEND otherwise starts a pass (R63, R64). -/
theorem takeResend_pass (hr : k.rtx ≠ []) (hg : ∀ g, k.goBack = some g → g.start ≠ k.va) :
    k.takeResend = { k with goBack := some { pointer := k.va, start := k.va }, tResp := some k.par.tResp } := by
  have fresh : k.goBack.map GoBack.start ≠ some k.va := by
    intro e
    obtain ⟨g, h, hs⟩ := Option.map_eq_some_iff.mp e
    exact hg g h hs
  exact (if_neg (by simp [hr])).trans (if_neg fresh)

end Link

section Supervisory
variable {s : State} {l : LinkId} {nr : Seq}

/-- The row of a STATUS in UP with a valid nr (R55). -/
theorem exec_status {poll answer : Bool} (hs : (s.link l).state = .up)
    (hn : (nr - (s.link l).va).toNat ≤ ((s.link l).vs - (s.link l).va).toNat) (h : s.Hears l (.status nr poll answer)) :
    exec (.status l) s =
      .next ((s.afterNr l nr).setLink l (((s.afterNr l nr).link l).takeStatusFlags poll answer)).settle := by
  refine (takeHeld_run (g := fun t => t.withNr l nr fun t => t.setLink l ((t.link l).takeStatusFlags poll answer)) h rfl).trans ?_
  rw [withNr_valid (s := s.heard l) hs hn]
  rfl

/-- The row of a RESEND in UP with a valid nr (R55). -/
theorem exec_resend (hs : (s.link l).state = .up) (hn : (nr - (s.link l).va).toNat ≤ ((s.link l).vs - (s.link l).va).toNat)
    (h : s.Hears l (.resend nr)) :
    exec (.resend l) s = .next ((s.afterNr l nr).setLink l ((s.afterNr l nr).link l).takeResend).settle := by
  refine (takeHeld_run (g := fun t => t.withNr l nr fun t => t.setLink l (t.link l).takeResend) h rfl).trans ?_
  rw [withNr_valid (s := s.heard l) hs hn]
  rfl

end Supervisory

/-- Settles O44: the rows run to the flags and to the RESEND after the nr, whose cases are those of the link record then. -/
theorem statusAndResendAct : Obligations.StatusAndResendAct := by
  intro s l nr hs hn t k pass
  refine ⟨fun poll answer h => ?_, fun h => ?_⟩
  · intro sup answered
    rw [exec_status hs hn h, Link.takeStatusFlags_eq]
    refine ⟨fun hc => ?_, fun ha hp hr => ?_, fun ha hp hr => ?_⟩
    · rcases hc with ha | hp
      · rw [if_neg (by simp [ha])]; rfl
      · rw [Link.takeAnswerFlag_unasked (k := k.polled poll) hp, ite_self]; rfl
    · rw [if_pos ha, Link.takeAnswerFlag_idle (k := k.polled poll) hp hr]; rfl
    · rw [if_pos ha, Link.takeAnswerFlag_pass (k := k.polled poll) hp hr]; rfl
  · rw [exec_resend hs hn h]
    refine ⟨fun hr => ?_, fun hr g hg hv => ?_, fun hr hg => ?_⟩
    · rw [Link.takeResend_idle hr, setLink_link]
    · rw [Link.takeResend_underWay hr hg hv]
    · rw [Link.takeResend_pass hr hg]

/-! ## The stamp of a taking (R54) -/

/-- Nothing of an acknowledgement is left to do on link `l`, and the frame handed to its line port carries `nr`. -/
structure State.Stamped (u : State) (l : LinkId) (nr : Seq) : Prop where
  pending : (u.link l).ackPending = false
  timer : (u.link l).tAck = none
  ack : (u.link l).owedSup.ack = false
  frame : ∃ x, (u.line l).tx = some x ∧ x.frame.nr = some nr

namespace State.Stamped
variable {s u : State} {l m : LinkId} {nr : Seq} {i : ChanId}

/-- A stamped link record, and a frame with nr handed to the port. -/
theorem handed {k : Link} {f : Frame} (hk : k.stamp = k) (hf : f.nr = some nr) : ((s.setLink l k).hand l f).Stamped l nr where
  pending := by rw [State.hand, link_setLine, link_setLink, ← hk]; rfl
  timer := by rw [State.hand, link_setLine, link_setLink, ← hk]; rfl
  ack := by rw [State.hand, link_setLine, link_setLink, ← hk]; rfl
  frame := ⟨{ frame := f }, by simp [State.hand], hf⟩

/-- A change of a link record that leaves its acknowledgement state leaves the stamp. -/
theorem setLink {k : Link} (h : u.Stamped l nr) (hk : k.ackPending = (u.link m).ackPending ∧ k.tAck = (u.link m).tAck
    ∧ k.owedSup = (u.link m).owedSup) : (u.setLink m k).Stamped l nr := by
  by_cases e : l = m
  · subst e
    obtain ⟨pending, timer, sup⟩ := hk
    exact ⟨by rw [link_setLink, pending, h.pending], by rw [link_setLink, timer, h.timer], by rw [link_setLink, sup, h.ack], h.frame⟩
  · have other := link_setLink_ne u k e
    exact ⟨other ▸ h.pending, other ▸ h.timer, other ▸ h.ack, h.frame⟩

theorem setChan (h : u.Stamped l nr) (c : Chan) : (u.setChan i c).Stamped l nr := ⟨h.pending, h.timer, h.ack, h.frame⟩

theorem setOwed (h : u.Stamped l nr) (o : Owed) : (u.setOwed i o).Stamped l nr := (h.setChan _).setLink ⟨rfl, rfl, rfl⟩

theorem takeNew (s : State) (l : LinkId) (dst src : ChanId) (b : EntryBody) :
    (s.takeNew l dst src b).Stamped l (s.link l).vr := by
  rw [takeNew_eq]; exact handed rfl rfl

theorem takeReady (s : State) (l : LinkId) (i : ChanId) (m : Member) : (s.takeReady l i m).Stamped l (s.link l).vr :=
  ((takeNew ..).setChan _).setLink ⟨rfl, rfl, rfl⟩

theorem takeData (s : State) (l : LinkId) (i : ChanId) (m : TxMsg) : (s.takeData l i m).Stamped l (s.link l).vr := by
  have served (k : Link) (cls : ChClass) : (k.served cls i).ackPending = k.ackPending ∧ (k.served cls i).tAck = k.tAck
      ∧ (k.served cls i).owedSup = k.owedSup := by cases cls <;> exact ⟨rfl, rfl, rfl⟩
  have sent := ((takeNew s l ((s.chan i).remote.getD 0) i (.data m)).setLink (m := l) (served _ (s.chan i).cls)).setChan (i := i)
    { s.chan i with sendQ := (s.chan i).sendQ.tail, txUsed := (s.chan i).txUsed + BitVec.ofNat 8 m.blocks }
  unfold State.takeData
  dsimp only
  split
  · exact sent.setOwed _
  · exact sent

/-- Every taking of a frame that carries nr stamps it with V(r). -/
theorem take {t : Taking} (h : ∀ f, t ≠ .link f) : (s.take l t).Stamped l (s.link l).vr := by
  cases t with
  | link f => exact absurd rfl (h f)
  | statusFrame | resend | retransmit e | plainStatus => exact handed rfl rfl
  | answer a =>
    have stamped := takeNew (s.setLink l { s.link l with answers := (s.link l).answers.tail }) l a.peerCh a.ourCh
      (.ctl (match a.refuse with | some r => .refuse r | none => .closed))
    rw [link_setLink] at stamped
    exact stamped
  | ready i m => exact takeReady ..
  | data i m => exact takeData ..

end State.Stamped

/-- The link frames carry no nr (R54). -/
theorem linkFrame_nr (k : Link) (f : LinkFrameKind) : (k.linkFrame f).nr = none := by cases f <;> rfl

/-- Settles O53: a link frame changes the owed link frames alone, and every other taking is stamped. -/
theorem takingsStampTheirFrames : Obligations.TakingsStampTheirFrames := by
  intro s l t u
  refine ⟨fun f hf => ?_, fun h => ?_⟩
  · subst hf
    have link : u.link l = { s.link l with owedLink := (s.link l).owedLink.remove f } := link_setLink ..
    rw [link]
    exact ⟨rfl, rfl, rfl, _, congrArg LinePort.tx (line_setLine ..), linkFrame_nr ..⟩
  · have stamped : u.Stamped l (s.link l).vr := .take h
    exact ⟨stamped.pending, stamped.timer, stamped.ack, stamped.frame⟩

end Sys2Proof.Machine
end

section
/-! SUPPORT. What the choice of an arbiter reads (Table 4-2): two states that agree on it choose alike, so that a step which changes
nothing of it leaves every idle transmitter with nothing to take, as the arbiters leave it at the end of every other step (R73). -/

namespace Sys2Proof.Machine

/-! ## What a choice reads -/

/-- A link record without what its arbiter does not read: the controller, the counters and the timers. -/
def Link.offer (k : Link) : Link := { k with controller := none, counters := {}, tAck := none, tResp := none, tIdle := none }

/-- The message that a record offers to the search of its class on link `l` (R84). -/
def Chan.offer (c : Chan) (l : LinkId) : Option (ChClass × TxMsg) := (c.eligible l).map fun m => (c.cls, m)

/-- A record offers nothing to a link that it is not bound to. -/
theorem offer_of_link_ne {c : Chan} {l : LinkId} (h : c.link ≠ l) : c.offer l = none := by simp [Chan.offer, Chan.eligible, h]

/-- A record offers nothing outside OPEN and CLOSING. -/
theorem offer_of_not_flows {c : Chan} (h : ¬ c.Flows) (l : LinkId) : c.offer l = none := by
  unfold Chan.Flows at h
  simp [Chan.offer, Chan.eligible, h]

/-- The search of a class reads of each record its offer alone. -/
theorem searchClass_eq (s : State) (l : LinkId) (cls : ChClass) (ptr : ChanId) : s.searchClass l cls ptr =
    (searchOrder ptr).findSome? fun i => ((s.chan i).offer l).bind fun x => if x.1 = cls then some (i, x.2) else none := by
  unfold State.searchClass
  congr 1
  funext i
  cases h : (s.chan i).eligible l with
  | none => simp [Chan.offer, h]
  | some m => simp [Chan.offer, h]

/-- Link `l` of `u` has for its transmitter what link `l` of `s` has, and its transmitter is idle only if that of `s` is. -/
structure SameOffer (s u : State) (l : LinkId) : Prop where
  enabled : (u.line l).enabled = true → (s.line l).enabled = true
  idle : (u.line l).tx = none → (s.line l).tx = none
  link : (u.link l).offer = (s.link l).offer
  owed : ∀ i, (s.link l).ready.head? = some i → (u.chan i).owed = (s.chan i).owed
  data : ∀ i, (u.chan i).offer l = (s.chan i).offer l

namespace SameOffer
variable {s u v : State} {l : LinkId}

/-- What reads nothing of a link record but its offer reads the same. -/
theorem read {α : Type} (e : SameOffer s u l) (f : Link → α) (hf : ∀ k, f k.offer = f k) : f (u.link l) = f (s.link l) := by
  rw [← hf, e.link, hf]

theorem ready (e : SameOffer s u l) : (u.link l).ready = (s.link l).ready := e.read Link.ready fun _ => rfl

theorem trans (h : SameOffer s u l) (h' : SameOffer u v l) : SameOffer s v l where
  enabled := h.enabled ∘ h'.enabled
  idle := h.idle ∘ h'.idle
  link := h'.link.trans h.link
  owed i hi := (h'.owed i (by rw [h.ready]; exact hi)).trans (h.owed i hi)
  data i := (h'.data i).trans (h.data i)

theorem headReady (e : SameOffer s u l) : u.headReady l = s.headReady l := by
  unfold State.headReady
  rw [e.ready]
  cases h : (s.link l).ready.head? with
  | none => rfl
  | some i => simp [e.owed i h]

theorem searchClass (e : SameOffer s u l) (cls : ChClass) (ptr : ChanId) : u.searchClass l cls ptr = s.searchClass l cls ptr := by
  simp only [searchClass_eq, e.data]

theorem chooseNew (e : SameOffer s u l) : u.chooseNew l = s.chooseNew l := by
  simp only [State.chooseNew, State.chooseData, e.headReady, e.searchClass, e.read Link.windowOpen fun _ => rfl,
    e.read Link.headAnswer fun _ => rfl, e.read Link.rrUrgent fun _ => rfl, e.read Link.rrNormal fun _ => rfl]

/-- Alike offers make the arbiter choose alike. -/
theorem choose (e : SameOffer s u l) : u.choose l = s.choose l := by
  simp only [State.choose, e.chooseNew, e.read Link.owedLink fun _ => rfl, e.read Link.state fun _ => rfl,
    e.read Link.owedSup fun _ => rfl, e.read Link.goBack fun _ => rfl, e.read Link.atPointer fun _ => rfl]

end SameOffer

/-- Every link of `u` has for its transmitter what that of `s` has. -/
def SameOffers (s u : State) : Prop := ∀ l, SameOffer s u l

/-- Where nothing changes of what the arbiters read, the idle transmitters still have nothing to take. -/
theorem SameOffers.settled {s u : State} (e : SameOffers s u) (h : s.Settled) : u.Settled := fun l he ht => by
  rw [(e l).choose]
  exact h l ((e l).enabled he) ((e l).idle ht)

namespace SameOffers
variable {s u v : State} {l : LinkId}

/-- Ports, the pool and the model's own fields are no offer. -/
theorem of_parts (hc : u.chans = s.chans) (hl : u.links = s.links) (hn : u.lines = s.lines) : SameOffers s u := fun l => by
  constructor <;> simp [State.chan, State.link, State.line, hc, hl, hn]

theorem refl (s : State) : SameOffers s s := of_parts rfl rfl rfl

theorem trans (h : SameOffers s u) (h' : SameOffers u v) : SameOffers s v := fun l => (h l).trans (h' l)

theorem thenPort (h : SameOffers s u) (p : Slot) (x : HostPort) : SameOffers s (u.setPort p x) := h.trans (of_parts rfl rfl rfl)

theorem setLink {k : Link} (hk : k.offer = (s.link l).offer) : SameOffers s (s.setLink l k) := fun m => by
  refine ⟨id, id, ?_, fun _ _ => rfl, fun _ => rfl⟩
  rw [link_setLink_ite]
  split
  · rename_i e; subst e; exact hk
  · rfl

theorem setLine {x : LinePort} (he : x.enabled = (s.line l).enabled) (ht : x.tx = (s.line l).tx) : SameOffers s (s.setLine l x) := by
  intro m
  refine ⟨?_, ?_, rfl, fun _ _ => rfl, fun _ => rfl⟩
  all_goals rw [line_setLine_ite]; split
  all_goals simp_all

/-- A record that owes nothing and has nothing to send is replaced by another. -/
theorem setChan {i : ChanId} {c : Chan} (ready : s.ReadyOk) (ho : (s.chan i).owed = {}) (old : ¬ (s.chan i).Flows) (new : ¬ c.Flows) :
    SameOffers s (s.setChan i c) := fun l => by
  refine ⟨id, id, rfl, fun j hj => ?_, fun j => ?_⟩
  · have owes := ((ready.exact l j).mp (List.mem_of_head? hj)).2
    rw [chan_setChan_ne _ _ fun e => owes (by rw [e]; exact ho)]
  · by_cases ji : j = i
    · subst ji; rw [chan_setChan, offer_of_not_flows old, offer_of_not_flows new]
    · rw [chan_setChan_ne _ _ ji]

end SameOffers

/-! ## A taking, as the other link sees it -/

/-- A taking puts a frame into the transmit buffer of its link (R73). -/
theorem take_tx (s : State) (l : LinkId) (t : Taking) : ∃ x, ((s.take l t).line l).tx = some x := by
  obtain ⟨link, others⟩ := takingsStampTheirFrames s l t
  by_cases h : ∃ f, t = .link f
  · obtain ⟨f, hf⟩ := h
    obtain ⟨-, -, -, x, hx, -⟩ := link f hf
    exact ⟨x, hx⟩
  · obtain ⟨-, -, -, x, hx, -⟩ := others (not_exists.mp h)
    exact ⟨x, hx⟩

/-- A new sequenced frame changes its own link record and line port alone. -/
theorem takeNew_other (s : State) {l m : LinkId} (hm : m ≠ l) (dst src : ChanId) (b : EntryBody) :
    (s.takeNew l dst src b).link m = s.link m ∧ (s.takeNew l dst src b).line m = s.line m := by
  simp [State.takeNew, State.hand, hm]

/-- A taking of what can be taken leaves the record and the line port of the other link. -/
theorem take_other {s : State} {l m : LinkId} {t : Taking} (ht : s.Takeable l t) (hm : m ≠ l) :
    (s.take l t).link m = s.link m ∧ (s.take l t).line m = s.line m := by
  cases t with
  | link _ => simp [State.take, State.takeLinkFrame, State.hand, hm]
  | statusFrame => simp [State.take, State.takeStatus, State.hand, hm]
  | resend => simp [State.take, State.takeResend, State.hand, hm]
  | retransmit _ => simp [State.take, State.takeRetransmission, State.hand, hm]
  | plainStatus => simp [State.take, State.takePlainStatus, State.hand, hm]
  | answer a => simp [State.take, State.takeAnswer, takeNew_other _ hm, hm]
  | ready i x => simp [State.take, State.takeReady, takeNew_other _ hm, hm]
  | data i x =>
    have bound : (s.chan i).link = l := ht.2.2.1
    simp only [State.take, State.takeData]
    split <;> simp [takeNew_other _ hm, bound, hm]

/-- A record that still owes a frame after one of its members was taken goes to the tail of the control-ready list (R23, R83). -/
theorem mem_ready_takeReady (s : State) (l : LinkId) {i : ChanId} {x : Member} (h : (s.chan i).owed.remove x ≠ {}) :
    i ∈ ((s.takeReady l i x).link l).ready := by
  simp [State.takeReady, owed_isEmpty_iff, h]

/-- A taking leaves the other link what it has for its transmitter, where the control-ready lists come out exact: a record whose owed set
it changes owes nothing to the other link, and one whose send queue it changes is bound to its own. -/
theorem take_sameOffer {s : State} {l m : LinkId} {t : Taking} (ht : s.Takeable l t) (hm : m ≠ l) (ready : (s.take l t).ReadyOk) :
    SameOffer s (s.take l t) m := by
  obtain ⟨link, line⟩ := take_other ht hm
  have owing (i : ChanId) (hi : (s.link m).ready.head? = some i) :
      ((s.take l t).chan i).link = m ∧ ((s.take l t).chan i).owed ≠ {} :=
    (ready.exact m i).mp (by rw [link]; exact List.mem_of_head? hi)
  suffices records : (∀ i, (s.link m).ready.head? = some i → ((s.take l t).chan i).owed = (s.chan i).owed)
      ∧ ∀ i, ((s.take l t).chan i).offer m = (s.chan i).offer m from
    ⟨by rw [line]; exact id, by rw [line]; exact id, by rw [link], records.1, records.2⟩
  cases t with
  | link _ | statusFrame | resend | retransmit _ | plainStatus => exact ⟨fun _ _ => rfl, fun _ => rfl⟩
  | answer a => exact ⟨fun _ _ => rfl, fun _ => rfl⟩
  | ready i x =>
    have taken := takeReady_becomes x ht.2.2.1
    refine ⟨fun j hj => ?_, fun j => ?_⟩
    · by_cases ji : j = i
      · subst ji
        obtain ⟨bound, owes⟩ := owing j hj
        have here := (ready.exact l j).mp (mem_ready_takeReady s l (by simpa only [State.take, taken.self] using owes))
        exact absurd (bound.symm.trans here.1) hm
      · rw [State.take, taken.others j ji]
    · by_cases ji : j = i
      · subst ji; rw [State.take, taken.self]; rfl
      · rw [State.take, taken.others j ji]
  | data i x =>
    have taken := takeData_becomes s l i x
    have bound : (s.chan i).link = l := ht.2.2.1
    have away : (s.chan i).link ≠ m := fun e => hm (e.symm.trans bound)
    have still : ((s.take l (.data i x)).chan i).link ≠ m := by rw [State.take, taken.self]; exact away
    refine ⟨fun j hj => ?_, fun j => ?_⟩
    · have ji : j ≠ i := by
        rintro rfl
        exact still (owing j hj).1
      rw [State.take, taken.others j ji]
    · by_cases ji : j = i
      · subst ji; rw [offer_of_link_ne still, offer_of_link_ne away]
      · rw [State.take, taken.others j ji]

/-! ## The arbiters at the end of a step -/

/-- After its opportunity an idle transmitter has nothing to take (R73). -/
theorem choose_arbitrate {s : State} {l : LinkId} (he : ((s.arbitrate l).line l).enabled = true)
    (ht : ((s.arbitrate l).line l).tx = none) : (s.arbitrate l).choose l = none := by
  unfold State.arbitrate at *
  dsimp only at *
  split at he
  · split at he
    · rename_i t hc
      obtain ⟨x, hx⟩ := take_tx s l t
      simp_all
    · simp_all
  · simp_all

/-- The opportunity of one link leaves the other what it has for its transmitter. -/
theorem arbitrate_sameOffer {s : State} {l m : LinkId} (hm : m ≠ l) (ready : (s.arbitrate l).ReadyOk) :
    SameOffer s (s.arbitrate l) m := by
  unfold State.arbitrate at *
  dsimp only at *
  split at ready
  · split at ready
    · rename_i t hc
      simpa [*] using take_sameOffer (choose_takeable hc) hm ready
    · simpa [*] using SameOffers.refl s m
  · simpa [*] using SameOffers.refl s m

/-- The idle transmitters have nothing to take, if the control-ready lists obey their law. -/
def State.SettledIfReady (s : State) : Prop := s.ReadyOk → s.Settled

/-- The arbiters leave every idle transmitter with nothing to take: link 1 by its own opportunity, and link 0 by its own, which that of
link 1 does not undo. -/
theorem settle_settled (s : State) : s.settle.SettledIfReady := by
  intro ready l
  match l with
  | 0 =>
    have same : SameOffer (s.arbitrate 0) s.settle 0 := arbitrate_sameOffer (by decide) ready
    exact fun he ht => same.choose.trans (choose_arbitrate (same.enabled he) (same.idle ht))
  | 1 => exact choose_arbitrate

end Sys2Proof.Machine
end

section
/-! SUPPORT. Every step leaves every idle transmitter with nothing to take (R73): a step that ends with the arbiters by what they leave,
every other step by the offers that it does not change. -/

namespace Sys2Proof.Machine

/-! ## Commands that end with the arbiters -/

theorem settled_settledIfReady (o : StepOutcome) : Yields (settled o) State.SettledIfReady := by
  cases o with
  | next u => exact yields_next (settle_settled u)
  | fault r => cases r
  | refused r => exact yields_refused r

theorem takeHeld_settledIfReady (s : State) (l : LinkId) (act : Frame → Option (State → State)) :
    Yields (s.takeHeld l act) State.SettledIfReady := by
  unfold State.takeHeld
  split
  · split
    · exact yields_next (settle_settled _)
    · exact yields_refused _
  · exact yields_refused _

theorem execTransmitComplete_settled (s : State) (l : LinkId) : Yields (execTransmitComplete l s) State.SettledIfReady := by
  unfold execTransmitComplete
  split
  · split
    · exact yields_refused _
    · exact yields_next (settle_settled _)
  · exact yields_refused _

theorem execTruncationComplete_settled (s : State) (l : LinkId) : Yields (execTruncationComplete l s) State.SettledIfReady := by
  unfold execTruncationComplete
  split
  · split
    · exact yields_next (settle_settled _)
    · exact yields_refused _
  · exact yields_refused _

/-! ## The line port -/


/-- A character taken by the receiver leaves the transmitter of its port (R142). -/
theorem receive_transmitter (p : LinePort) (c : LineChar) :
    (p.receive c).1.enabled = p.enabled ∧ (p.receive c).1.tx = p.tx := by
  have store (b : Byte) : (p.store b).1.enabled = p.enabled ∧ (p.store b).1.tx = p.tx := by
    unfold LinePort.store; dsimp only; split <;> exact ⟨rfl, rfl⟩
  have startBody (b : Byte) : (p.startBody b).1.enabled = p.enabled ∧ (p.startBody b).1.tx = p.tx := by
    unfold LinePort.startBody; split_ifs <;> exact ⟨rfl, rfl⟩
  have endBody : p.endBody.1.enabled = p.enabled ∧ p.endBody.1.tx = p.tx := by
    unfold LinePort.endBody; split <;> exact ⟨rfl, rfl⟩
  unfold LinePort.receive
  split
  · exact ⟨rfl, rfl⟩
  · dsimp only; split <;> exact ⟨rfl, rfl⟩
  · exact ⟨rfl, rfl⟩
  · split
    · exact ⟨rfl, rfl⟩
    · exact startBody _
  · exact ⟨rfl, rfl⟩
  · split_ifs
    · exact endBody
    · exact ⟨rfl, rfl⟩
    · exact store _
  · exact ⟨rfl, rfl⟩
  · unfold LinePort.unescape
    split_ifs
    · exact store _
    · exact store _
    · exact ⟨rfl, rfl⟩
    · exact ⟨rfl, rfl⟩
  · exact ⟨rfl, rfl⟩

/-- A tick enables no port and frees no transmit buffer (R137, R140). -/
theorem tick_transmitter (p : LinePort) : (p.tick.enabled = true → p.enabled = true) ∧ (p.tick.tx = none → p.tx = none) := by
  unfold LinePort.tick LinePort.sendOn
  dsimp only
  split_ifs <;> simp

namespace SameOffers
variable {s : State} {l : LinkId}

theorem receiveLevels (levels : List Bool) : SameOffers s (s.receiveLevels l levels) := by
  unfold State.receiveLevels
  dsimp only
  split
  · exact refl s
  · refine List.foldlRecOn _ _ (setLine rfl rfl) fun u hu c _ => hu.trans ?_
    obtain ⟨enabled, tx⟩ := receive_transmitter (u.line l) c
    rw [receiveChar_eq]
    refine (setLine enabled tx).trans (setLink ?_)
    split <;> rfl

theorem keepSample (asserted : Bool) : SameOffers s (s.keepSample l asserted) := setLine rfl rfl

theorem tick (s : State) : SameOffers s s.tick := by
  unfold State.tick
  split
  · exact refl s
  · intro l
    obtain ⟨enabled, idle⟩ := tick_transmitter (s.line l)
    constructor
    · simpa [State.line] using enabled
    · simpa [State.line] using idle
    · simp [State.link, Link.tick, Link.offer]
    · exact fun _ _ => rfl
    · exact fun _ => rfl

/-! ## Commands that change no offer -/

/-- A command that ends a transaction, by its effect on the transaction in progress (R150). -/
theorem endTransaction {p : Slot} {n : Nat} {act : Txn → Option State} (ha : ∀ u, act (s.port p).txn = some u → SameOffers s u) :
    Yields (s.endTransaction p n act) (SameOffers s) := by
  unfold State.endTransaction
  split
  · exact yields_refused _
  split
  · exact yields_next ((refl s).thenPort _ _)
  split
  · exact yields_next (ha _ ‹_›)
  · exact yields_refused _

theorem midTransaction {p : Slot} {n : Nat} {act : Txn → Option State} (ha : ∀ x u, act x = some u → SameOffers s u) :
    Yields (s.midTransaction p n act) (SameOffers s) :=
  yields_midTransaction (refl s) ((refl s).thenPort p) ha

/-- A request other than SEND, which has no staged message to free (R108, R109), changes the offers by its command alone. -/
theorem request {p : Slot} {row : Byte → Bool} {body : List Byte} {act : Action} (port : (s.port p).Ok) (send : row 0x30#8 = false)
    (ha : ∀ hd st, SameOffers s (act hd st s).1) : Yields (s.request p row body act) (SameOffers s) := by
  refine endTransaction fun u hu => ?_
  split at hu
  · rename_i hd st ht
    obtain ⟨hr, hu⟩ := Option.ite_none_right_eq_some.mp hu
    cases hu
    refine thenPort (thenPort ?_ _ _) _ _
    split
    · have fits := port.staging hd st ht
      cases st with
      | granted n =>
        obtain ⟨⟨code, -⟩, -⟩ := fits
        rw [code, send] at hr
        cases hr
      | none | refused _ => exact refl s
    · exact ha hd st
  · cases hu

/-- A request whose command changes ports alone. -/
theorem query {p : Slot} {row : Byte → Bool} {body : List Byte} {act : Action} (port : (s.port p).Ok) (send : row 0x30#8 = false)
    (ha : ∀ hd st, (act hd st s).1 = s) : Yields (s.request p row body act) (SameOffers s) :=
  request port send fun hd st => by rw [ha]; exact refl s

theorem execAttach {p : Slot} (port : (s.port p).Ok) (body : List Byte) : Yields (Machine.execAttach p body s) (SameOffers s) := by
  refine request port rfl fun hd st => ?_
  unfold State.doAttach
  split
  · exact refl s
  · exact (refl s).thenPort _ _

theorem execLinkClaim {p : Slot} (port : (s.port p).Ok) (body : List Byte) :
    Yields (Machine.execLinkClaim p body s) (SameOffers s) := by
  refine request port rfl fun hd st => ?_
  unfold State.doLinkClaim
  split
  · exact refl s
  dsimp only
  split
  · exact refl s
  split
  · exact setLink rfl
  · split <;> exact refl s

theorem execLinkQuery {p : Slot} (port : (s.port p).Ok) (body : List Byte) :
    Yields (Machine.execLinkQuery p body s) (SameOffers s) := by
  refine query port rfl fun hd st => ?_
  unfold State.doLinkQuery
  split <;> rfl

theorem execChQuery {p : Slot} (port : (s.port p).Ok) (body : List Byte) : Yields (Machine.execChQuery p body s) (SameOffers s) := by
  refine query port rfl fun hd st => ?_
  unfold State.doChQuery
  split <;> rfl

theorem execPoolQuery {p : Slot} (port : (s.port p).Ok) (body : List Byte) :
    Yields (Machine.execPoolQuery p body s) (SameOffers s) :=
  query port rfl fun _ _ => rfl

theorem execUnknownCommand {p : Slot} (port : (s.port p).Ok) (body : List Byte) :
    Yields (Machine.execUnknownCommand p body s) (SameOffers s) :=
  query port rfl fun _ _ => rfl

/-- CH-LISTEN takes a FREE record, which owes nothing, and leaves one that owes nothing (R6). -/
theorem execChListen {p : Slot} (port : (s.port p).Ok) (ready : s.ReadyOk) (body : List Byte) :
    Yields (Machine.execChListen p body s) (SameOffers s) := by
  refine request port rfl fun hd st => ?_
  unfold State.doChListen
  dsimp only
  split
  · exact refl s
  split
  · exact refl s
  · exact refl s
  · rename_i hr
    have free := free_of_resolve hr
    exact setChan ready (ready.quiet _ (by rw [free]; rfl)) (by simp [Chan.Flows, free]) (by simp [Chan.Flows, listening])

theorem execTransactionCode (p : Slot) (code : Byte) : Yields (Machine.execTransactionCode p code s) (SameOffers s) := by
  refine midTransaction fun x u e => ?_
  split at e <;> cases e
  exact (refl s).thenPort _ _

/-- A staging claim takes free blocks, which no arbiter reads (R92). -/
theorem stagingClaim (p : Slot) (n : Nat) : SameOffers s (s.stagingClaim p n).1 := by
  unfold State.stagingClaim
  dsimp only
  split
  · exact refl s
  split
  · exact refl s
  · exact of_parts rfl rfl rfl

theorem execWriteRequestHeader (p : Slot) (tag code : Byte) (len : Byte × Byte) :
    Yields (Machine.execWriteRequestHeader p tag code len s) (SameOffers s) := by
  unfold Machine.execWriteRequestHeader
  dsimp only
  refine midTransaction fun x u e => ?_
  split at e
  · split at e <;> cases e
    · exact (refl s).thenPort _ _
    · refine thenPort ?_ _ _
      split
      · exact stagingClaim p _
      · exact refl s
  · cases e

theorem execStatusTransaction (p : Slot) (n : Nat) : Yields (Machine.execStatusTransaction p n s) (SameOffers s) := by
  refine endTransaction fun u e => ?_
  split at e <;> cases e
  exact (refl s).thenPort _ _

theorem execReadEvent (p : Slot) (n : Nat) : Yields (Machine.execReadEvent p n s) (SameOffers s) := by
  refine endTransaction fun u e => ?_
  split at e <;> cases e
  · exact (refl s).thenPort _ _
  · refine thenPort ?_ _ _
    split
    · exact (refl s).thenPort _ _
    · exact refl s

theorem execIgnoredTransactionEnd (p : Slot) (n : Nat) : Yields (Machine.execIgnoredTransactionEnd p n s) (SameOffers s) := by
  refine endTransaction fun u e => ?_
  split at e <;> cases e
  all_goals exact (refl s).thenPort _ _

theorem execChipSelectFalls (p : Slot) : Yields (Machine.execChipSelectFalls p s) (SameOffers s) := by
  unfold Machine.execChipSelectFalls
  dsimp only
  split
  · exact yields_refused _
  split
  · exact yields_next ((refl s).thenPort _ _)
  split
  all_goals exact yields_next ((refl s).thenPort _ _)

theorem execHostPortResetRelease (p : Slot) : Yields (Machine.execHostPortResetRelease p s) (SameOffers s) := by
  unfold Machine.execHostPortResetRelease
  split
  · exact yields_refused _
  split
  all_goals exact yields_next ((refl s).thenPort _ _)

theorem execDeviceResetRelease : Yields (Machine.execDeviceResetRelease s) (SameOffers s) := by
  unfold Machine.execDeviceResetRelease
  split
  · exact yields_next (of_parts rfl rfl rfl)
  · exact yields_refused _

end SameOffers

/-! ## The rows of the table -/

/-- Device reset disables every line port (R137, R169). -/
theorem execDeviceReset_settled (s : State) : Yields (execDeviceReset s) State.SettledIfReady :=
  yields_next fun _ l he => by simp [State.line, LinePort.deviceHeld] at he

section Settled
variable {s : State} (rest : s.Settled)
include rest

/-- A command that changes no offer. -/
theorem yields_of_sameOffers {o : StepOutcome} (h : Yields o (SameOffers s)) : Yields o State.SettledIfReady :=
  fun t ht _ => (h t ht).settled rest

theorem execHostPortReset_settled (p : Slot) : Yields (execHostPortReset p s) State.SettledIfReady := by
  unfold execHostPortReset
  split
  · exact yields_of_sameOffers rest (yields_next ((SameOffers.refl s).thenPort _ _))
  · exact yields_next (settle_settled _)

theorem execLineReadyDeasserted_settled (l : LinkId) : Yields (execLineReadyDeasserted l s) State.SettledIfReady := by
  unfold execLineReadyDeasserted
  dsimp only
  split
  · exact yields_next (settle_settled _)
  · exact yields_of_sameOffers rest (yields_next (.keepSample _))

/-- An expiry that is due ends with the arbiters, and one that is not due does nothing (R72). -/
theorem yields_expiry {due : Prop} [Decidable due] (u : State) :
    Yields (if due then .next u.settle else .next s) State.SettledIfReady := by
  split
  · exact yields_next (settle_settled u)
  · exact yields_next fun _ => rest

/-- Every command leaves the idle transmitters with nothing to take. -/
theorem exec_settled (ports : ∀ p, (s.port p).Ok) (ready : s.ReadyOk) (c : Instr) : Yields (exec c s) State.SettledIfReady := by
  have quiet {o : StepOutcome} (h : Yields o (SameOffers s)) : Yields o State.SettledIfReady := yields_of_sameOffers rest h
  cases c with
  | attach p body => exact quiet (.execAttach (ports p) body)
  | linkClaim p body => exact quiet (.execLinkClaim (ports p) body)
  | linkQuery p body => exact quiet (.execLinkQuery (ports p) body)
  | chListen p body => exact quiet (.execChListen (ports p) ready body)
  | chQuery p body => exact quiet (.execChQuery (ports p) body)
  | poolQuery p body => exact quiet (.execPoolQuery (ports p) body)
  | unknownCommand p body => exact quiet (.execUnknownCommand (ports p) body)
  | detach p body | linkStart p body | linkStop p body | chOpen p body | chClose p body | chRelease p body | send p body
  | recv p body | readResponse p n => exact settled_settledIfReady _
  | transactionCode p code => exact quiet (.execTransactionCode p code)
  | statusTransaction p n => exact quiet (.execStatusTransaction p n)
  | writeRequestHeader p tag code len => exact quiet (.execWriteRequestHeader p tag code len)
  | readEvent p n => exact quiet (.execReadEvent p n)
  | chipSelectFalls p => exact quiet (.execChipSelectFalls p)
  | ignoredTransactionEnd p n => exact quiet (.execIgnoredTransactionEnd p n)
  | hostPortReset p => exact execHostPortReset_settled rest p
  | hostPortResetRelease p => exact quiet (.execHostPortResetRelease p)
  | deviceReset => exact execDeviceReset_settled s
  | deviceResetRelease => exact quiet .execDeviceResetRelease
  | lineReadyDeasserted l => exact execLineReadyDeasserted_settled rest l
  | lineReadyAsserted l => exact quiet (yields_next (.keepSample _))
  | frameBodyStart l b => exact quiet (yields_next (.receiveLevels _))
  | frameEnd l | huntDelimiter l => exact quiet (yields_next (.receiveLevels _))
  | bodyCharacter l levels => exact quiet (yields_next (.receiveLevels _))
  | transmitComplete l => exact execTransmitComplete_settled s l
  | truncationComplete l => exact execTruncationComplete_settled s l
  | linkOpen l | linkAccept l | linkClose l | linkClosed l | status l | resend l | data l | chanOpen l | chanAccept l | chanRefuse l
  | chanClose l | chanClosed l | chanCredit l => exact takeHeld_settledIfReady s l _
  | tAckExpiry l | tRespExpiry l | tIdleExpiry l => exact yields_expiry rest _

end Settled

/-- Settles O12: the lists obey their law after the step (O7), and then every command, and the tick, leave nothing to take. -/
theorem stepKeepsSettled : Obligations.StepKeepsSettled := by
  intro s t ports ready rest h
  have readyAfter : t.ReadyOk := stepKeepsReadyLists s t ready h
  suffices Yields (step s) State.SettledIfReady from this t h readyAfter
  unfold step
  split
  · rename_i cs _
    have same : SameOffers s { s with pending := cs } := .of_parts rfl rfl rfl
    exact exec_settled (same.settled rest) ports.ok (ReadyOk.same ready (.of_parts rfl rfl)) _
  · exact yields_of_sameOffers rest (yields_next (.tick s))

end Sys2Proof.Machine
end

section
/-! SUPPORT. The accounts of the buffer pool: who holds its blocks, and how they stand after a change of one record, of the
retransmission lists and of the pool (R87, R88, R91). -/

namespace Sys2Proof.Machine

/-! ## Sums over the records -/

/-- A sum over the records when one term has changed. -/
theorem sum_allChans_change {f g : ChanId → Nat} (i : ChanId) (h : ∀ j, j ≠ i → g j = f j) :
    (allChans.map g).sum + f i = (allChans.map f).sum + g i := by
  have split (k : ChanId → Nat) : (allChans.map k).sum = k i + ∑ j ∈ Finset.univ.erase i, k j := by
    rw [allChans, ← Fin.sum_univ_def, Finset.add_sum_erase _ _ (Finset.mem_univ i)]
  have rest : ∑ j ∈ Finset.univ.erase i, g j = ∑ j ∈ Finset.univ.erase i, f j :=
    Finset.sum_congr rfl fun j hj => h j (Finset.ne_of_mem_erase hj)
  rw [split f, split g, rest]
  omega

theorem le_sum_allChans (f : ChanId → Nat) (i : ChanId) : f i ≤ (allChans.map f).sum :=
  List.le_sum_of_mem (List.mem_map_of_mem (List.mem_finRange i))

/-! ## The blocks of messages -/

@[simp] theorem chargedBlocks_nil (n : Slot) : chargedBlocks n [] = 0 := rfl

theorem chargedBlocks_cons (n : Slot) (m : TxMsg) (ms : List TxMsg) :
    chargedBlocks n (m :: ms) = (if n = m.slot then m.blocks else 0) + chargedBlocks n ms := by
  by_cases h : n = m.slot
  · subst h; simp [chargedBlocks]
  · simp [chargedBlocks, h, Ne.symm h]

/-- The blocks of transmit messages are the sum of what is charged to the three slots (R91). -/
theorem sum_blocks_eq (ms : List TxMsg) : (ms.map TxMsg.blocks).sum = chargedBlocks 0 ms + chargedBlocks 1 ms + chargedBlocks 2 ms := by
  induction ms with
  | nil => rfl
  | cons m ms ih =>
    have one : m.slot = 0 ∨ m.slot = 1 ∨ m.slot = 2 := by generalize m.slot = n; fin_cases n <;> simp
    rw [List.map_cons, List.sum_cons, ih]
    simp only [chargedBlocks_cons]
    rcases one with e | e | e <;> simp [e] <;> omega

/-- The TX count, slot by slot. -/
theorem Pool.tx_eq (p : Pool) : p.tx = p.usage[(0 : Slot)] + p.usage[(1 : Slot)] + p.usage[(2 : Slot)] := rfl

@[simp] theorem dataMsgs_append (a b : List Entry) : dataMsgs (a ++ b) = dataMsgs a ++ dataMsgs b := by simp [dataMsgs]

/-! ## Accounts -/

/-- What a host port holds of the pool: the blocks that it stages, and those of the messages that its responses carry. -/
def HostPort.holds (x : HostPort) : Nat × Nat := (x.txn.staging.blocks, heldBlocks (heldMsgs x.responses))

/-- What the ports hold, and what the books of the pool put down to them: for each slot the blocks staged, and the blocks of the messages
in responses. The two differ in the middle of a claim that gives blocks up or passes them on. -/
structure Account where
  port : Slot → Nat × Nat
  staged : Slot → Nat
  answered : Nat

/-- The blocks in send queues that are charged to a slot (R91). -/
def State.queued (s : State) (n : Slot) : Nat := (allChans.map fun i => chargedBlocks n (s.chan i).sendQ).sum

/-- The blocks in retransmission lists that are charged to a slot (R91). -/
def State.unacked (s : State) (n : Slot) : Nat := chargedBlocks n (dataMsgs (s.link 0).rtx) + chargedBlocks n (dataMsgs (s.link 1).rtx)

/-- The blocks in receive queues (R107). -/
def State.arrived (s : State) : Nat := (allChans.map fun i => heldBlocks (s.chan i).recvQ).sum

/-- The law of the pool with the ports at an account, but for the rule that records wait for credit only while no block is
free-unreserved (R101): the rule fails between the raising of free-unreserved and the serving of the credit-owed list. -/
structure State.Balances (s : State) (a : Account) : Prop where
  ports : ∀ p, (s.port p).holds = a.port p
  total : s.pool.free + s.pool.tx + s.pool.rx = 1024
  usage : ∀ n : Slot, s.pool.usage[n] = a.staged n + s.queued n + s.unacked n
  quota : ∀ n : Slot, s.pool.usage[n] ≤ 192
  rx : s.pool.rx = s.arrived + a.answered
  reserved : s.pool.reserved = s.credit
  backed : s.pool.reserved ≤ s.pool.free
  once : s.pool.creditOwed.Nodup
  waiting : ∀ i ∈ s.pool.creditOwed, (s.chan i).state = .opened

/-- The whole law of the pool with the ports at an account. -/
structure State.Balanced (s : State) (a : Account) : Prop extends State.Balances s a where
  short : s.pool.creditOwed ≠ [] → s.pool.unreserved = 0

/-- The account of a state whose books are in order: what the ports hold is what is put down to them. -/
def State.account (s : State) : Account where
  port p := (s.port p).holds
  staged n := (s.port n).txn.staging.blocks
  answered := (allSlots.map fun p => heldBlocks (heldMsgs (s.port p).responses)).sum

/-- The law of the pool is its law at the account of the state. -/
theorem poolOk_iff {s : State} : s.PoolOk ↔ s.Balanced s.account := by
  have charged (n : Slot) : s.charged n = s.account.staged n + s.queued n + s.unacked n := by
    simp only [State.charged, State.account, State.queued, State.unacked]; omega
  have received : s.received = s.arrived + s.account.answered := rfl
  constructor
  · intro h
    exact { h with ports := fun _ => rfl, usage := fun n => (h.usage n).trans (charged n) }
  · intro h
    exact { h with usage := fun n => (h.usage n).trans (charged n).symm }

/-- The account of a state is read off what its ports hold. -/
theorem account_eq {s u : State} (h : ∀ p, (u.port p).holds = (s.port p).holds) : u.account = s.account := by
  have staged (p : Slot) : (u.port p).txn.staging.blocks = (s.port p).txn.staging.blocks := congrArg Prod.fst (h p)
  have answered (p : Slot) : heldBlocks (heldMsgs (u.port p).responses) = heldBlocks (heldMsgs (s.port p).responses) :=
    congrArg Prod.snd (h p)
  simp only [State.account, h, staged, answered]

/-- The law at the account of a state that holds the same in its ports is the law of the pool. -/
theorem State.Balanced.poolOk {s u : State} (h : u.Balanced s.account) : u.PoolOk :=
  poolOk_iff.mpr (by rw [account_eq h.ports]; exact h)

/-! ## Changes of the books -/

/-- A change of one record, of the retransmission lists and of the pool, by what it does to each side of the books. -/
theorem State.Balances.change {s u : State} {a b : Account} (h : s.Balances a) (i : ChanId)
    (others : ∀ j, j ≠ i → u.chan j = s.chan j) (ports : ∀ p, (u.port p).holds = b.port p)
    (total : u.pool.free + u.pool.tx + u.pool.rx = s.pool.free + s.pool.tx + s.pool.rx)
    (usage : ∀ n : Slot, u.pool.usage[n] + (chargedBlocks n (s.chan i).sendQ + s.unacked n + a.staged n)
      = s.pool.usage[n] + (chargedBlocks n (u.chan i).sendQ + u.unacked n + b.staged n))
    (quota : ∀ n : Slot, u.pool.usage[n] ≤ 192)
    (rx : u.pool.rx + (heldBlocks (s.chan i).recvQ + a.answered) = s.pool.rx + (heldBlocks (u.chan i).recvQ + b.answered))
    (reserved : u.pool.reserved + (s.chan i).outstanding = s.pool.reserved + (u.chan i).outstanding)
    (backed : u.pool.reserved ≤ u.pool.free) (list : u.pool.creditOwed.Sublist s.pool.creditOwed)
    (waiting : i ∈ u.pool.creditOwed → (u.chan i).state = .opened) : u.Balances b where
  ports := ports
  total := total.trans h.total
  usage n := by
    have books := h.usage n
    have moved := usage n
    have queues := sum_allChans_change (f := fun j => chargedBlocks n (s.chan j).sendQ) (g := fun j => chargedBlocks n (u.chan j).sendQ) i
      fun j hj => by rw [others j hj]
    simp only [State.queued] at *
    omega
  quota := quota
  rx := by
    have books := h.rx
    have queues := sum_allChans_change (f := fun j => heldBlocks (s.chan j).recvQ) (g := fun j => heldBlocks (u.chan j).recvQ) i
      fun j hj => by rw [others j hj]
    simp only [State.arrived] at *
    omega
  reserved := by
    have books := h.reserved
    have credits := sum_allChans_change (f := fun j => (s.chan j).outstanding) (g := fun j => (u.chan j).outstanding) i
      fun j hj => by rw [others j hj]
    simp only [State.credit] at *
    omega
  backed := backed
  once := h.once.sublist list
  waiting j hj := by
    by_cases e : j = i
    · subst e; exact waiting hj
    · rw [others j e]; exact h.waiting j (list.subset hj)

/-- The fields of a record that the pool's law reads. -/
def Chan.booked (c : Chan) : ChState × List TxMsg × List RxMsg × Nat := (c.state, c.sendQ, c.recvQ, c.outstanding)

/-- Two states agree on everything that the pool's law reads. -/
structure SameBooks (s u : State) : Prop where
  pool : u.pool = s.pool
  ports : ∀ p, (u.port p).holds = (s.port p).holds
  chans : ∀ i, (u.chan i).booked = (s.chan i).booked
  unacked : ∀ n, u.unacked n = s.unacked n

/-- Changing a record in a field that the law does not read leaves the books. -/
theorem State.Balances.same {s u : State} {a : Account} (h : s.Balances a) (e : SameBooks s u) : u.Balances a := by
  have state (i : ChanId) : (u.chan i).state = (s.chan i).state := congrArg Prod.fst (e.chans i)
  have sendQ (i : ChanId) : (u.chan i).sendQ = (s.chan i).sendQ := congrArg (fun x => x.2.1) (e.chans i)
  have recvQ (i : ChanId) : (u.chan i).recvQ = (s.chan i).recvQ := congrArg (fun x => x.2.2.1) (e.chans i)
  have outstanding (i : ChanId) : (u.chan i).outstanding = (s.chan i).outstanding := congrArg (fun x => x.2.2.2) (e.chans i)
  have queued (n : Slot) : u.queued n = s.queued n := by simp only [State.queued, sendQ]
  have arrived : u.arrived = s.arrived := by simp only [State.arrived, recvQ]
  have credit : u.credit = s.credit := by simp only [State.credit, outstanding]
  constructor
  case ports => exact fun p => (e.ports p).trans (h.ports p)
  case usage => intro n; rw [e.pool, queued, e.unacked]; exact h.usage n
  case rx => rw [e.pool, arrived]; exact h.rx
  case reserved => rw [e.pool, credit]; exact h.reserved
  case waiting => intro i hi; rw [state]; exact h.waiting i (e.pool ▸ hi)
  all_goals rw [e.pool]
  case total => exact h.total
  case quota => exact h.quota
  case backed => exact h.backed
  case once => exact h.once

theorem State.Balanced.same {s u : State} {a : Account} (h : s.Balanced a) (e : SameBooks s u) : u.Balanced a :=
  { h.toBalances.same e with short := by rw [e.pool]; exact h.short }

end Sys2Proof.Machine
end

section
/-! SUPPORT. What leaves the books of the pool as they are, and what the claims of the buffer manager do to them: giving up (R96), grants
and reservations (R95, R100), the serving of the credit-owed list (R101), freeings (R93, R94). -/

namespace Sys2Proof.Machine

/-- The law of the channel records, as a law of the table. -/
theorem tableRecords : TableLaw True State.RecordsOk := recordsOk_law trivial

/-! ## What leaves the books -/

theorem countPost_staging (t : Txn) : t.countPost.staging = t.staging := by
  unfold Txn.countPost
  split
  · split <;> rfl
  · rfl

@[simp] theorem post_holds (x : HostPort) (e : Event) : (x.post e).holds = x.holds := by
  unfold HostPort.post
  split
  · simp only [HostPort.holds, countPost_staging]
  · rfl

theorem unacked_setLink (s : State) (l : LinkId) (k : Link) (n : Slot) :
    (s.setLink l k).unacked n + chargedBlocks n (dataMsgs (s.link l).rtx) = s.unacked n + chargedBlocks n (dataMsgs k.rtx) := by
  have two : l = 0 ∨ l = 1 := by fin_cases l <;> simp
  rcases two with rfl | rfl
  · simp only [State.unacked, link_setLink, link_setLink_ne s k (show (1 : LinkId) ≠ 0 by decide)]; omega
  · simp only [State.unacked, link_setLink, link_setLink_ne s k (show (0 : LinkId) ≠ 1 by decide)]; omega

/-- What the channel table changes of the links leaves the messages of their retransmission lists (R114). -/
theorem SameCore.unacked {s u : State} (h : SameCore s u) (n : Slot) : u.unacked n = s.unacked n := by
  simp only [State.unacked, (dataMsgs_sameBlocks (h 0)).2, (dataMsgs_sameBlocks (h 1)).2]

namespace SameBooks
variable {s u v : State}

theorem refl (s : State) : SameBooks s s := ⟨rfl, fun _ => rfl, fun _ => rfl, fun _ => rfl⟩

theorem trans (h : SameBooks s u) (h' : SameBooks u v) : SameBooks s v where
  pool := h'.pool.trans h.pool
  ports p := (h'.ports p).trans (h.ports p)
  chans i := (h'.chans i).trans (h.chans i)
  unacked n := (h'.unacked n).trans (h.unacked n)

theorem setPort {p : Slot} {x : HostPort} (h : x.holds = (s.port p).holds) : SameBooks s (s.setPort p x) :=
  { refl s with
    ports := fun q => by
      rw [port_setPort_ite]
      split
      · rename_i e; subst e; exact h
      · rfl }

theorem setChan {i : ChanId} {c : Chan} (h : c.booked = (s.chan i).booked) : SameBooks s (s.setChan i c) :=
  { refl s with
    chans := fun j => by
      rw [chan_setChan_ite]
      split
      · rename_i e; subst e; exact h
      · rfl }

theorem setLink {l : LinkId} {k : Link} (h : ∀ n, chargedBlocks n (dataMsgs k.rtx) = chargedBlocks n (dataMsgs (s.link l).rtx)) :
    SameBooks s (s.setLink l k) :=
  { refl s with
    unacked := fun n => by have := unacked_setLink s l k n; have := h n; omega }

/-- A link record changed elsewhere than in its retransmission list. -/
theorem setLink_rtx {l : LinkId} {k : Link} (h : k.rtx = (s.link l).rtx) : SameBooks s (s.setLink l k) :=
  setLink fun n => by rw [h]

theorem setLine (l : LinkId) (x : LinePort) : SameBooks s (s.setLine l x) :=
  ⟨rfl, fun _ => rfl, fun _ => rfl, fun _ => rfl⟩

theorem postTo (n : Slot) (e : Event) : SameBooks s (s.postTo n e) := setPort (post_holds ..)

theorem postAll (e : Event) : SameBooks s (s.postAll e) :=
  { refl s with ports := fun p => by rw [postAll_port, post_holds] }

theorem postOthers (p : Slot) (e : Event) : SameBooks s (s.postOthers p e) where
  pool := postOthers_pool ..
  ports q := by rw [postOthers_port]; split <;> simp
  chans i := by rw [postOthers_chan]
  unacked n := by simp only [State.unacked, postOthers_link]

theorem setOwed (i : ChanId) (o : Owed) : SameBooks s (s.setOwed i o) := by
  rw [setOwed_eq]
  exact trans (u := s.setChan i { s.chan i with owed := o }) (setChan rfl) (setLink_rtx rfl)

theorem foldl {α : Type} {f : State → α → State} (h : ∀ s a, SameBooks s (f s a)) (as : List α) (s : State) :
    SameBooks s (as.foldl f s) := by
  induction as generalizing s with
  | nil => exact refl s
  | cons a as ih => exact (h s a).trans (ih _)

end SameBooks

/-! ## The credit-owed list -/

/-- Records leave the credit-owed list. -/
theorem State.Balances.forget {s : State} {a : Account} (h : s.Balances a) {q : List ChanId} (hq : q.Sublist s.pool.creditOwed) :
    (s.setCreditOwed q).Balances a :=
  { h with
    once := h.once.sublist hq
    waiting := fun i hi => h.waiting i (hq.subset hi) }

theorem State.Balanced.forget {s : State} {a : Account} (h : s.Balanced a) {q : List ChanId} (hq : q.Sublist s.pool.creditOwed) :
    (s.setCreditOwed q).Balanced a :=
  { h.toBalances.forget hq with
    short := fun hn => h.short fun e => hn (List.eq_nil_of_subset_nil (e ▸ hq.subset)) }

/-- What waits for credit waits, and what is on the list is in OPEN alone (R100). -/
theorem State.Balances.off_list {s : State} {a : Account} (h : s.Balances a) {i : ChanId} (hs : (s.chan i).state ≠ .opened) :
    i ∉ s.pool.creditOwed := fun hi => hs (h.waiting i hi)

theorem unreserve_idle {p : Pool} {i : ChanId} (h : i ∉ p.creditOwed) : p.unreserve i 0 = p := by
  have stay : p.creditOwed.filter (· != i) = p.creditOwed :=
    List.filter_eq_self.mpr fun j hj => by simpa using fun e : j = i => h (e ▸ hj)
  rw [Pool.unreserve, stay]
  rfl

/-! ## Giving up -/

/-- From `s` to `w` record `i` becomes `c` and gives up its send queue, the received messages `rs` and its outstanding credit, with which
it leaves the credit-owed list (R96, R121, R122). -/
structure State.GivesUp (s w : State) (i : ChanId) (c : Chan) (rs : List RxMsg) : Prop extends Becomes s w i c where
  sendQ : c.sendQ = []
  recvQ : heldBlocks c.recvQ + heldBlocks rs = heldBlocks (s.chan i).recvQ
  outstanding : c.outstanding = 0
  core : SameCore s w
  ports : ∀ p, (w.port p).holds = (s.port p).holds
  pool : w.pool = ((s.freeTxMsgs (s.chan i).sendQ).freeRxMsgs rs).pool.unreserve i (s.chan i).outstanding

theorem State.Balances.charged_le {s : State} {a : Account} (h : s.Balances a) (i : ChanId) (n : Slot) :
    chargedBlocks n (s.chan i).sendQ ≤ s.pool.usage[n] := by
  have books := h.usage n
  have part : _ ≤ s.queued n := le_sum_allChans (fun j => chargedBlocks n (s.chan j).sendQ) i
  omega

theorem State.Balances.held_le {s : State} {a : Account} (h : s.Balances a) (i : ChanId) : heldBlocks (s.chan i).recvQ ≤ s.pool.rx := by
  have books := h.rx
  have part : _ ≤ s.arrived := le_sum_allChans (fun j => heldBlocks (s.chan j).recvQ) i
  omega

theorem State.Balances.outstanding_le {s : State} {a : Account} (h : s.Balances a) (i : ChanId) :
    (s.chan i).outstanding ≤ s.pool.reserved := by
  rw [h.reserved]
  exact le_sum_allChans (fun j => (s.chan j).outstanding) i

/-- What is given up returns to FREE, and the books still balance (R93, R94, R96). -/
theorem State.Balances.givesUp {s w : State} {a : Account} {i : ChanId} {c : Chan} {rs : List RxMsg} (h : s.Balances a)
    (g : s.GivesUp w i c rs) : w.Balances a := by
  obtain ⟨free, usage, rx, reserved, owed⟩ := freeTxMsgs_pool s (s.chan i).sendQ
  have pool := g.pool
  rw [freeRxMsgs_eq] at pool
  have hfree : w.pool.free = s.pool.free + ((s.chan i).sendQ.map TxMsg.blocks).sum + heldBlocks rs := by rw [pool, ← free]; rfl
  have husage (n : Slot) : w.pool.usage[n] = s.pool.usage[n] - chargedBlocks n (s.chan i).sendQ := by rw [pool]; exact usage n
  have hrx : w.pool.rx = s.pool.rx - heldBlocks rs := by rw [pool, ← rx]; rfl
  have hreserved : w.pool.reserved = s.pool.reserved - (s.chan i).outstanding := by rw [pool, ← reserved]; rfl
  have hlist : w.pool.creditOwed = s.pool.creditOwed.filter (· != i) := by rw [pool, ← owed]; rfl
  have charged := h.charged_le i
  have held := h.held_le i
  have credit := h.outstanding_le i
  have recvQ := g.recvQ
  refine h.change i g.others (fun p => (g.ports p).trans (h.ports p)) ?_ (fun n => ?_) (fun n => ?_) ?_ ?_ ?_ ?_ fun hi => ?_
  · have := charged 0; have := charged 1; have := charged 2
    have := sum_blocks_eq (s.chan i).sendQ
    have := husage 0; have := husage 1; have := husage 2
    rw [Pool.tx_eq, Pool.tx_eq]
    omega
  · have := charged n; have := husage n
    rw [g.self, g.sendQ, g.core.unacked, chargedBlocks_nil]
    omega
  · have := h.quota n; have := husage n; omega
  · rw [g.self]; omega
  · rw [g.self, g.outstanding]; omega
  · have := h.backed; omega
  · rw [hlist]; exact List.filter_sublist
  · rw [hlist] at hi; simp at hi

/-! ## Reservations and grants -/

/-- Record `i` becomes `c` with `g` blocks more of outstanding credit, which are reserved (R95, R100). With `g` 0 it is a change that
moves no blocks. -/
theorem State.Balances.reserves {s u : State} {a : Account} {i : ChanId} {c : Chan} {g : Nat} (h : s.Balances a) (b : Becomes s u i c)
    (core : SameCore s u) (ports : ∀ p, (u.port p).holds = (s.port p).holds) (pool : u.pool = s.pool.reserve g)
    (room : g ≤ s.pool.unreserved) (sendQ : c.sendQ = (s.chan i).sendQ) (recvQ : c.recvQ = (s.chan i).recvQ)
    (outstanding : c.outstanding = (s.chan i).outstanding + g) (waiting : i ∈ s.pool.creditOwed → c.state = .opened) :
    u.Balances a := by
  obtain rfl := b.self
  refine h.change i b.others (fun p => (ports p).trans (h.ports p)) ?_ (fun n => ?_) (fun n => ?_) ?_ ?_ ?_ ?_ fun hi => ?_
  · rw [pool]; rfl
  · rw [pool, sendQ, core.unacked]; rfl
  · rw [pool]; exact h.quota n
  · rw [pool, recvQ]; rfl
  · rw [pool, outstanding]; simp only [Pool.reserve]; omega
  · have backed := h.backed
    rw [pool]
    simp only [Pool.reserve, Pool.unreserved] at *
    omega
  · rw [pool]; rfl
  · rw [pool] at hi; exact waiting hi

/-- A grant takes at most the want of an OPEN record, which is below 64, so that its outstanding credit rises by the grant (R89, R100). -/
theorem outstanding_granted {c : Chan} (h : c.Ok) (ho : c.state = .opened) {g : Nat} (hg : g ≤ c.want) (o : Owed) :
    ({ c with rxGranted := c.rxGranted + BitVec.ofNat 8 g, owed := o } : Chan).outstanding = c.outstanding + g := by
  have receive := h.receive
  have window := (h.window (by simp [ho])).2
  simp only [Chan.want, Chan.outstanding] at *
  bv_omega

theorem State.Balances.raiseGrant {s : State} {a : Account} {i : ChanId} {g : Nat} (h : s.Balances a) (records : s.RecordsOk)
    (want : g ≤ (s.chan i).openWant) (room : g ≤ s.pool.unreserved) : (s.raiseGrant i g).Balances a := by
  by_cases g0 : g = 0
  · simpa [State.raiseGrant, g0] using h
  obtain ⟨opened, within⟩ := grant_le_want want g0
  obtain ⟨ports, -⟩ := raiseGrant_frame s i g
  obtain ⟨-, -, -, pool⟩ := raiseGrant_spec s i g fun _ => opened
  exact h.reserves (raiseGrant_becomes s i g0) ((SameCore.refl s).raiseGrant g) (fun p => by simp only [State.port, ports]) pool room rfl rfl
    (outstanding_granted (records i) opened within _) fun _ => opened

/-! ## The serving of the credit-owed list -/

theorem raiseGrant_setCreditOwed (s : State) (i : ChanId) (g : Nat) (q : List ChanId) :
    (s.setCreditOwed q).raiseGrant i g = (s.raiseGrant i g).setCreditOwed q := by
  by_cases h : g = 0
  · simp only [State.raiseGrant, if_pos h]
  · rw [raiseGrant_eq s i h, raiseGrant_eq (s.setCreditOwed q) i h, apply_ite (State.setCreditOwed · q)]
    rfl

/-- Serving the ids of a list writes what is left of it, whatever the credit-owed list was (R101). -/
theorem serveList_setCreditOwed (q r : List ChanId) (s : State) : State.serveList q (s.setCreditOwed r) = State.serveList q s := by
  induction q generalizing s with
  | nil => rfl
  | cons i rest ih =>
    have unreserved : (s.setCreditOwed r).pool.unreserved = s.pool.unreserved := rfl
    have record : (s.setCreditOwed r).chan i = s.chan i := rfl
    simp only [State.serveList, unreserved, record, raiseGrant_setCreditOwed, ih]
    rfl

/-- Serving the credit-owed list restores the rule that records wait only while no block is free-unreserved (R101). -/
theorem State.Balances.serveList {a : Account} (q : List ChanId) {s : State} (h : s.Balances a) (records : s.RecordsOk)
    (list : s.pool.creditOwed = q) : (State.serveList q s).Balanced a := by
  induction q generalizing s with
  | nil => exact { h.forget (List.nil_sublist _) with short := fun hn => absurd rfl hn }
  | cons i rest ih =>
    rw [State.serveList]
    by_cases full : s.pool.unreserved = 0
    · rw [if_pos full]
      exact { h.forget (list ▸ List.Sublist.refl _) with short := fun _ => full }
    rw [if_neg full]
    dsimp only
    generalize hg : min (s.chan i).openWant s.pool.unreserved = g
    have want : g ≤ (s.chan i).openWant := by omega
    have room : g ≤ s.pool.unreserved := by omega
    have granted := h.raiseGrant records want room
    obtain ⟨-, -, -, pool⟩ := raiseGrant_spec s i g fun h0 => (grant_le_want want h0).1
    have kept : (s.raiseGrant i g).pool.creditOwed = i :: rest := by rw [pool]; exact list
    split
    · rename_i short
      have taken : (s.raiseGrant i g).pool.unreserved = 0 := by rw [pool]; simp only [Pool.unreserved] at *; omega
      exact { granted.forget (kept ▸ List.Sublist.refl _) with short := fun _ => taken }
    · rw [← serveList_setCreditOwed rest rest]
      refine ih (granted.forget (by rw [kept]; exact List.sublist_cons_self ..)) ?_ rfl
      exact tableRecords.setPool _ (tableRecords.raiseGrant records want)

theorem State.Balances.serve {s : State} {a : Account} (h : s.Balances a) (records : s.RecordsOk) : s.serve.Balanced a :=
  h.serveList _ records rfl

end Sys2Proof.Machine
end

section
/-! SUPPORT. The books of the pool across each change that the rules of chapters 1, 4, 5, 6 and 7 make of a record. -/

namespace Sys2Proof.Machine

theorem Becomes.recordsOk {s u : State} {i : ChanId} {c : Chan} (b : Becomes s u i c) (h : s.RecordsOk) (ok : c.Ok) : u.RecordsOk := by
  intro j
  by_cases e : j = i
  · rw [e, b.self]; exact ok
  · rw [b.others j e]; exact h j

/-! ## What a record without a conversation holds -/

namespace Chan.Ok
variable {c : Chan}

theorem no_credit (h : c.Ok) (hs : c.state ≠ .opening ∧ c.state ≠ .opened ∧ c.state ≠ .closing) : c.outstanding = 0 := by
  obtain ⟨granted, consumed⟩ := h.granting hs
  simp [Chan.outstanding, granted, consumed]

end Chan.Ok

/-! ## Records given up -/

theorem endChan_givesUp (s : State) (i : ChanId) (r : Reason) :
    ∃ w, s.endChan i r = w.serve ∧ s.GivesUp w i ((s.chan i).endedWith r) [] :=
  ⟨_, rfl, {
    toBecomes := .after (.thenSet (.after (.thenReleased (.before (freeTxMsgs_same ..) (.setOwed ..))) (clearNotify_same ..)) rfl)
      (postTo_same ..)
    sendQ := rfl
    recvQ := rfl
    outstanding := by simp [Chan.outstanding, Chan.endedWith]
    core := .setPort (.setChan (.clearNotify (.setPool (.setChan (.setOwed (.setPool (.refl s) _) _) _) _)) _) _ _
    ports := fun p => (SameBooks.postTo ..).ports p
    pool := by simp [State.releaseCredit, State.clearNotify, State.freeRxMsgs]; rfl }⟩

theorem abortChan_givesUp (s : State) (i : ChanId) :
    ∃ w, s.abortChan i = w.serve ∧ s.GivesUp w i (s.chan i).aborted (s.chan i).recvQ :=
  have e := (freeTxMsgs_same s (s.chan i).sendQ).trans (freeRxMsgs_same _ (s.chan i).recvQ)
  ⟨_, rfl, {
    toBecomes := .thenSet (.thenOwed (.after (.thenReleased (.before e (becomes_self ..))) (clearNotify_same ..)) rfl rfl _) rfl
    sendQ := rfl
    recvQ := Nat.zero_add _
    outstanding := by simp [Chan.outstanding, Chan.aborted]
    core := .setChan (.setOwed (.clearNotify (.setPool (.setChan (.setPool (.setPool (.refl s) _) _) _) _)) _) _
    ports := fun _ => rfl
    pool := rfl }⟩

/-- A record of an open handshake gives up its reservation, and becomes FREE (R96, R127). -/
theorem releasedFree_givesUp {s : State} {i : ChanId} (sendQ : (s.chan i).sendQ = []) (recvQ : (s.chan i).recvQ = []) :
    s.GivesUp ((s.releaseCredit i).freeChan i) i {} [] where
  toBecomes := .thenSet (.thenOwed (.thenReleased (becomes_self s i)) rfl rfl {}) rfl
  sendQ := rfl
  recvQ := by rw [recvQ]; rfl
  outstanding := rfl
  core := .freeChan (.setPool (.setChan (.refl s) _) _)
  ports _ := rfl
  pool := by rw [sendQ]; rfl

/-- An ENDED record gives up its receive queue, and becomes FREE (R127). -/
theorem endedFree_givesUp {s : State} {i : ChanId} (sendQ : (s.chan i).sendQ = []) (credit : (s.chan i).outstanding = 0)
    (list : i ∉ s.pool.creditOwed) : s.GivesUp ((s.freeRxMsgs (s.chan i).recvQ).freeChan i) i {} (s.chan i).recvQ where
  toBecomes := .before (freeRxMsgs_same ..) (freeChan_becomes ..)
  sendQ := rfl
  recvQ := Nat.zero_add _
  outstanding := rfl
  core := .freeChan (.setPool (.refl s) _)
  ports _ := rfl
  pool := by
    have off : i ∉ (s.freeRxMsgs (s.chan i).recvQ).pool.creditOwed := by rw [freeRxMsgs_eq]; exact list
    rw [sendQ, credit]
    exact (unreserve_idle off).symm

namespace State.Balanced
variable {s u : State} {a : Account} {i : ChanId} {l : LinkId}

/-- What a record gives up goes to the records of the credit-owed list. -/
theorem givesUp {c : Chan} {rs : List RxMsg} (h : s.Balanced a) (records : s.RecordsOk) (g : s.GivesUp u i c rs) (ok : c.Ok) :
    u.serve.Balanced a :=
  (h.toBalances.givesUp g).serve (g.recordsOk records ok)

theorem endChan (h : s.Balanced a) (records : s.RecordsOk) (ht : (s.chan i).Talks) (r : Reason) : (s.endChan i r).Balanced a := by
  obtain ⟨w, e, g⟩ := endChan_givesUp s i r
  rw [e]
  exact h.givesUp records g (Chan.endedWith_ok (records i) ht r)

theorem abortChan (h : s.Balanced a) (records : s.RecordsOk) (ht : (s.chan i).Talks) : (s.abortChan i).Balanced a := by
  obtain ⟨w, e, g⟩ := abortChan_givesUp s i
  rw [e]
  exact h.givesUp records g (Chan.aborted_ok (records i) ht)

/-! ## Changes that move no blocks -/

/-- Record `i` becomes `c` with the same messages and the same outstanding credit. -/
theorem becomes {c : Chan} (h : s.Balanced a) (b : Becomes s u i c) (core : SameCore s u)
    (ports : ∀ p, (u.port p).holds = (s.port p).holds) (pool : u.pool = s.pool) (sendQ : c.sendQ = (s.chan i).sendQ)
    (recvQ : c.recvQ = (s.chan i).recvQ) (outstanding : c.outstanding = (s.chan i).outstanding)
    (waiting : i ∈ s.pool.creditOwed → c.state = .opened) : u.Balanced a :=
  { h.toBalances.reserves (g := 0) b core ports pool (Nat.zero_le _) sendQ recvQ outstanding waiting with
    short := by rw [pool]; exact h.short }

/-- A record that holds nothing becomes FREE (R1). -/
theorem freeChan (h : s.Balanced a) (sendQ : (s.chan i).sendQ = []) (recvQ : (s.chan i).recvQ = []) (credit : (s.chan i).outstanding = 0)
    (hs : (s.chan i).state ≠ .opened) : (s.freeChan i).Balanced a :=
  h.becomes (freeChan_becomes s i) (SameCore.refl s).freeChan (fun _ => rfl) rfl sendQ.symm recvQ.symm credit.symm
    (absurd · (h.off_list hs))

theorem freeAborted (h : s.Balanced a) (records : s.RecordsOk) (hs : (s.chan i).state = .aborting) : (s.freeAborted i).Balanced a := by
  have ok := records i
  have freed : (s.freeChan i).Balanced a :=
    h.freeChan (ok.sendQueue (by simp [hs])) (ok.aborting hs).1 (ok.no_credit (by simp [hs])) (by simp [hs])
  exact freed.same (.postTo ..)

theorem giveUp (h : s.Balanced a) (records : s.RecordsOk) : (s.giveUp i).Balanced a := by
  have ok := records i
  unfold State.giveUp
  dsimp only
  split <;> rename_i hs
  · exact h.freeChan (ok.sendQueue (by simp [hs])) (ok.listen hs).1 (ok.no_credit (by simp [hs])) (by simp [hs])
  · have gives := endedFree_givesUp (ok.sendQueue (by simp [hs])) (ok.no_credit (by simp [hs])) (h.off_list (by simp [hs]))
    exact h.givesUp records gives Chan.default_ok
  · split
    · have gives := releasedFree_givesUp (ok.sendQueue (by simp [hs])) (ok.opening hs).1
      exact h.givesUp records gives Chan.default_ok
    · exact h.abortChan records (.inl hs)
  · exact h.abortChan records (.inr (.inl hs))
  · exact h.abortChan records (.inr (.inr hs))
  · exact h
  · exact h

theorem tearRecord (h : s.Balanced a) (records : s.RecordsOk) (r : Reason) : (s.tearRecord i r).Balanced a := by
  unfold State.tearRecord
  split <;> rename_i hs
  · exact h.endChan records (.inl hs) r
  · exact h.endChan records (.inr (.inl hs)) r
  · exact h.endChan records (.inr (.inr hs)) r
  · exact h.freeAborted records hs
  all_goals exact h

/-- A record completes an open handshake (R11): an OPENING record has no message to send. -/
theorem enterOpen (h : s.Balanced a) (records : s.RecordsOk) (hs : (s.chan i).state = .opening) (w : Nat) :
    (s.enterOpen i w).Balanced a :=
  h.becomes (enterOpen_becomes s i w) ((SameCore.refl s).enterOpen w) (fun p => (SameBooks.postTo ..).ports p) rfl
    ((records i).sendQueue (by simp [hs])).symm rfl rfl fun _ => rfl

theorem crossOpen (h : s.Balanced a) (records : s.RecordsOk) (hs : (s.chan i).state = .opening) (w : Nat) :
    (s.crossOpen i w).Balanced a := by
  have entered := h.enterOpen records hs w
  unfold State.crossOpen
  dsimp only
  split
  · exact entered.same (.setOwed ..)
  · exact entered

theorem closeRecord (h : s.Balanced a) : (s.closeRecord i).Balanced a := by
  have left : (s.setCreditOwed (s.pool.creditOwed.filter (· != i))).Balanced a := h.forget List.filter_sublist
  have closing : ((s.setCreditOwed (s.pool.creditOwed.filter (· != i))).setChan i
      { s.chan i with state := .closing, closeSent := false }).Balanced a :=
    left.becomes (Becomes.setChan rfl) (.setChan (.refl _) _) (fun _ => rfl) rfl rfl rfl rfl fun hi => by
      simp [State.setCreditOwed] at hi
  unfold State.closeRecord
  dsimp only
  split
  · exact State.Balanced.same (s := (s.setCreditOwed _).setChan i _) closing (.setOwed ..)
  · exact closing

/-! ## Reservations -/

/-- A reservation or a grant leaves less free-unreserved. -/
theorem reserves {c : Chan} {g : Nat} (h : s.Balanced a) (b : Becomes s u i c) (core : SameCore s u)
    (ports : ∀ p, (u.port p).holds = (s.port p).holds) (pool : u.pool = s.pool.reserve g)
    (room : g ≤ s.pool.unreserved) (sendQ : c.sendQ = (s.chan i).sendQ) (recvQ : c.recvQ = (s.chan i).recvQ)
    (outstanding : c.outstanding = (s.chan i).outstanding + g) (waiting : i ∈ s.pool.creditOwed → c.state = .opened) :
    u.Balanced a :=
  { h.toBalances.reserves b core ports pool room sendQ recvQ outstanding waiting with
    short := fun hn => by
      rw [pool] at hn ⊢
      have full := h.short hn
      simp only [Pool.unreserved, Pool.reserve] at *
      omega }

theorem outstanding_fresh {c : Chan} {w : Nat} (hw : w ≤ 64) (hg : c.rxGranted = BitVec.ofNat 8 w) (hc : c.rxConsumed = 0) :
    c.outstanding = w := by
  simp only [Chan.outstanding, hg, hc]
  bv_omega

/-- A LISTEN record accepts within free-unreserved (R13, R95). -/
theorem acceptOpen (h : s.Balanced a) (records : s.RecordsOk) (hs : (s.chan i).state = .listen)
    (room : (s.chan i).rxWindow ≤ s.pool.unreserved) (src : ChanId) (w : Nat) : (s.acceptOpen i src w).Balanced a := by
  have ok := records i
  refine h.reserves (acceptOpen_becomes s i src w) ((SameCore.refl s).acceptOpen src w) (fun p => (SameBooks.postTo ..).ports p) rfl room
    (ok.sendQueue (by simp [hs])).symm rfl ?_ fun _ => rfl
  rw [ok.no_credit (by simp [hs]), Nat.zero_add]
  exact outstanding_fresh (ok.window (by simp [hs])).2 rfl rfl

/-- A FREE record taken by CH-OPEN, within free-unreserved (R8, R95). -/
theorem openRecord (h : s.Balanced a) (records : s.RecordsOk) (hs : (s.chan i).state = .free) {b : TakeBody} (hb : b.rxWindow ≤ 64)
    (room : b.rxWindow ≤ s.pool.unreserved) (p : Slot) : (s.openRecord i p l b).Balanced a := by
  have free := (records i).free hs
  have taken : ((s.setChan i (openingRecord p l b)).setPool (s.pool.reserve b.rxWindow)).Balanced a := by
    refine h.reserves (.after (.setQuiet (by rw [hs]; rfl) rfl) (.setPool ..)) (.setPool (.setChan (.refl s) _) _) (fun _ => rfl) rfl room
      (by rw [free]; rfl) (by rw [free]; rfl) ?_ fun hi => absurd hi (h.off_list (by simp [hs]))
    rw [free]
    exact (outstanding_fresh hb rfl rfl).trans (Nat.zero_add _).symm
  exact taken.same (.setOwed ..)

end State.Balanced
end Sys2Proof.Machine
end

section
/-! SUPPORT. The books of the pool across the frames that a link takes and sends, the teardown of a link and the end of a session. -/

namespace Sys2Proof.Machine

/-! ## What a teardown leaves of its retransmission list -/

theorem torn_rtx (k : Link) : k.torn.rtx = [] := rfl

/-- The retransmission list of a link that has been torn down is empty (R46). -/
theorem teardown_rtx (s : State) (l : LinkId) (r : Reason) : ((s.teardown l r).link l).rtx = [] := by
  have core := congrArg Link.rtx (teardown_link s l r)
  simpa [Link.core, torn_rtx] using core

/-! ## What the frames sent add to a retransmission list -/

/-- The message that an entry holds. -/
def EntryBody.msgs : EntryBody → List TxMsg
  | .data m => [m]
  | .ctl _ => []

theorem unacked_takeNew (s : State) (l : LinkId) (dst src : ChanId) (b : EntryBody) (n : Slot) :
    (s.takeNew l dst src b).unacked n = s.unacked n + chargedBlocks n b.msgs := by
  have entry : dataMsgs ((s.link l).sent dst src b).rtx = dataMsgs (s.link l).rtx ++ b.msgs := by
    simp only [Link.sent, dataMsgs_append]
    cases b <;> rfl
  have sent := unacked_setLink s l ((s.link l).sent dst src b) n
  rw [entry, chargedBlocks_append] at sent
  rw [takeNew_eq]
  exact (by omega : (s.setLink l ((s.link l).sent dst src b)).unacked n = s.unacked n + chargedBlocks n b.msgs)

namespace SameBooks
variable {s : State} {l : LinkId}

theorem takeCtl (dst src : ChanId) (c : Ctl) : SameBooks s (s.takeNew l dst src (.ctl c)) :=
  { refl s with
    pool := rfl
    ports := fun _ => rfl
    chans := fun _ => rfl
    unacked := fun n => by rw [unacked_takeNew]; rfl }

theorem count (f : Counters → Counters) : SameBooks s (s.count l f) := setLink_rtx rfl

theorem answer (x : Answer) : SameBooks s (s.answer l x) := setLink_rtx rfl

end SameBooks

namespace State.Balanced
variable {s : State} {a : Account} {i : ChanId} {l : LinkId}

theorem setLink {k : Link} (h : s.Balanced a) (hk : k.rtx = (s.link l).rtx) : (s.setLink l k).Balanced a := h.same (.setLink_rtx hk)
theorem setChan {c : Chan} (h : s.Balanced a) (hc : c.booked = (s.chan i).booked) : (s.setChan i c).Balanced a := h.same (.setChan hc)
theorem setLine {x : LinePort} (h : s.Balanced a) : (s.setLine l x).Balanced a := h.same (.setLine ..)
theorem setPort {p : Slot} {x : HostPort} (h : s.Balanced a) (hx : x.holds = (s.port p).holds) : (s.setPort p x).Balanced a :=
  h.same (.setPort hx)
theorem postTo {p : Slot} {e : Event} (h : s.Balanced a) : (s.postTo p e).Balanced a := h.same (.postTo ..)
theorem postAll {e : Event} (h : s.Balanced a) : (s.postAll e).Balanced a := h.same (.postAll e)
theorem postOthers {p : Slot} {e : Event} (h : s.Balanced a) : (s.postOthers p e).Balanced a := h.same (.postOthers ..)
theorem count {f : Counters → Counters} (h : s.Balanced a) : (s.count l f).Balanced a := h.same (.count f)
theorem answer {x : Answer} (h : s.Balanced a) : (s.answer l x).Balanced a := h.same (.answer x)
theorem takeCtl {dst src : ChanId} {c : Ctl} (h : s.Balanced a) : (s.takeNew l dst src (.ctl c)).Balanced a := h.same (.takeCtl ..)

/-- A change of one record, of the retransmission lists and of the pool that leaves the credit-owed list and what is free-unreserved. -/
theorem change {u : State} {b : Account} (h : s.Balanced a) (e : u.Balances b) (list : u.pool.creditOwed = s.pool.creditOwed)
    (unreserved : u.pool.unreserved ≤ s.pool.unreserved) : u.Balanced b :=
  { e with
    short := fun hn => by
      have full := h.short (list ▸ hn)
      omega }

/-! ## Frames sent (R53, R85) -/

/-- A message sent passes from its send queue to the retransmission list (R85). -/
theorem takeData {m : TxMsg} (h : s.Balanced a) (hm : (s.chan i).sendQ.head? = some m) : (s.takeData l i m).Balanced a := by
  obtain ⟨rest, hq⟩ : ∃ rest, (s.chan i).sendQ = m :: rest := List.head?_eq_some_iff.mp hm
  have b := takeData_becomes s l i m
  have pool : (s.takeData l i m).pool = s.pool := by unfold State.takeData; dsimp only; split <;> rfl
  have ports (p : Slot) : (s.takeData l i m).port p = s.port p := by unfold State.takeData; dsimp only; split <;> rfl
  have unacked (n : Slot) : (s.takeData l i m).unacked n = s.unacked n + chargedBlocks n [m] := by
    refine Eq.trans ?_ (unacked_takeNew s l ((s.chan i).remote.getD 0) i (.data m) n)
    have served (u : State) (c : ChClass) : (u.setLink l ((u.link l).served c i)).unacked n = u.unacked n := by
      have rtx : ((u.link l).served c i).rtx = (u.link l).rtx := by cases c <;> rfl
      exact (SameBooks.setLink_rtx rtx).unacked n
    unfold State.takeData
    dsimp only
    split
    · exact ((SameBooks.setOwed ..).unacked n).trans (served _ _)
    · exact served _ _
  refine h.change ?_ (by rw [pool]) (by rw [pool])
  refine h.toBalances.change i b.others (fun p => by rw [ports]; exact h.ports p) (by rw [pool]) (fun n => ?_) (fun n => ?_) ?_ ?_ ?_ ?_
    fun hi => ?_
  · rw [b.self, unacked, hq, pool, chargedBlocks_cons n m rest, chargedBlocks_cons n m []]
    simp only [List.tail_cons, chargedBlocks_nil]
    omega
  · rw [pool]; exact h.quota n
  · rw [b.self, pool]
  · rw [b.self, pool]; rfl
  · rw [pool]; exact h.backed
  · rw [pool]
  · rw [pool] at hi; rw [b.self]; exact h.waiting i hi

/-- A channel frame sent for a record holds no message (R23). -/
theorem takeReady (h : s.Balanced a) (m : Member) : (s.takeReady l i m).Balanced a := by
  have sent : (s.takeNew l ((s.chan i).remote.getD 0) i (.ctl ((s.chan i).snapshot m))).Balanced a := h.takeCtl
  exact setLink (setChan sent rfl) rfl

theorem take {t : Taking} (h : s.Balanced a) (ht : s.Takeable l t) : (s.take l t).Balanced a := by
  have hand {u : State} {f : Frame} (hu : u.Balanced a) : (u.hand l f).Balanced a := setLine hu
  cases t with
  | link _ | statusFrame | resend | retransmit _ | plainStatus => exact hand (setLink h rfl)
  | answer x => exact takeCtl (setLink h rfl)
  | ready i m => exact h.takeReady m
  | data i m =>
    obtain ⟨-, -, -, -, head, -⟩ := ht
    exact h.takeData head

theorem arbitrate (h : s.Balanced a) (l : LinkId) : (s.arbitrate l).Balanced a := by
  unfold State.arbitrate
  dsimp only
  split
  · split
    · exact h.take (choose_takeable ‹_›)
    · exact h
  · exact h

theorem settle (h : s.Balanced a) : s.settle.Balanced a := (h.arbitrate 0).arbitrate 1

/-! ## Entries freed (R46, R57) -/

/-- Entries of a retransmission list leave it, and their messages are freed. -/
theorem freeEntries {k : Link} {ms : List TxMsg} (h : s.Balanced a)
    (left : ∀ n, chargedBlocks n (dataMsgs k.rtx) + chargedBlocks n ms = chargedBlocks n (dataMsgs (s.link l).rtx)) :
    ((s.freeTxMsgs ms).setLink l k).Balances a := by
  obtain ⟨free, usage, rx, reserved, owed⟩ := freeTxMsgs_pool s ms
  have unacked (n : Slot) : ((s.freeTxMsgs ms).setLink l k).unacked n + chargedBlocks n (dataMsgs (s.link l).rtx)
      = s.unacked n + chargedBlocks n (dataMsgs k.rtx) := unacked_setLink (s.freeTxMsgs ms) l k n
  have charged (n : Slot) : chargedBlocks n ms ≤ s.pool.usage[n] := by
    have := h.usage n; have := unacked n; have := left n; omega
  refine h.toBalances.change 0 (fun _ _ => rfl) h.ports ?_ (fun n => ?_) (fun n => ?_) ?_ ?_ ?_ ?_ fun hi => ?_
  · have := charged 0; have := charged 1; have := charged 2
    have := usage 0; have := usage 1; have := usage 2
    have := sum_blocks_eq ms
    rw [pool_setLink, Pool.tx_eq, Pool.tx_eq]
    omega
  · have := usage n; have := charged n; have := left n; have := unacked n
    simp only [chan_setLink, freeTxMsgs_chan, pool_setLink]
    omega
  · have := usage n; have := h.quota n; rw [pool_setLink]; omega
  · rw [pool_setLink, rx]; rfl
  · rw [pool_setLink, reserved]; rfl
  · have := h.backed; rw [pool_setLink]; omega
  · rw [pool_setLink, owed]
  · rw [pool_setLink, owed] at hi; exact h.waiting 0 hi

/-- The channel table takes a teardown (R133). -/
theorem tearChannels (h : s.Balanced a) (records : s.RecordsOk) (l : LinkId) (r : Reason) :
    (s.tearChannels l r).Balanced a ∧ (s.tearChannels l r).RecordsOk := by
  refine List.foldlRecOn (motive := fun u : State => u.Balanced a ∧ u.RecordsOk) _ _ ⟨h.forget List.filter_sublist, records⟩
    fun u ⟨hu, ru⟩ i _ => ?_
  split
  · exact ⟨hu.tearRecord ru r, tableRecords.tearRecord r ru⟩
  · exact ⟨hu, ru⟩

theorem teardown (h : s.Balanced a) (records : s.RecordsOk) (l : LinkId) (r : Reason) : (s.teardown l r).Balanced a := by
  obtain ⟨torn, records⟩ := h.tearChannels records l r
  unfold State.teardown
  generalize s.tearChannels l r = t at torn records
  have freed : ((t.freeTxMsgs (dataMsgs (t.link l).rtx)).setLink l (t.link l).torn).Balances a :=
    torn.freeEntries fun n => by rw [torn_rtx]; exact Nat.zero_add _
  exact (freed.serve records).same (.setLine ..)

theorem acknowledge (h : s.Balanced a) (records : s.RecordsOk) (l : LinkId) (nr : Seq) : (s.acknowledge l nr).Balanced a := by
  by_cases h0 : (s.link l).ackCount nr = 0
  · have same : s.acknowledge l nr = s := if_pos h0
    rw [same]; exact h
  rw [acknowledge_eq h0 rfl]
  have rest : ((s.link l).acked nr).rtx = (s.link l).rtx.drop ((s.link l).ackCount nr) := by rw [Link.acked_eq]
  have freed := h.freeEntries (l := l) (k := (s.link l).acked nr) (ms := dataMsgs ((s.link l).rtx.take ((s.link l).ackCount nr)))
    fun n => by
      rw [rest, Nat.add_comm, ← chargedBlocks_append, ← dataMsgs_append, List.take_append_drop]
  have posted (ms : List TxMsg) (u : State) : SameBooks u (u.postSent l ms) := by
    refine .foldl (fun v m => ?_) ms u
    split
    · exact .postTo ..
    · exact .refl v
  refine (freed.same (posted _ _)).serve ?_
  rw [postSent_frame]
  exact records

/-! ## Links that change their state -/

theorem protocolReset (h : s.Balanced a) (records : s.RecordsOk) (l : LinkId) : (s.protocolReset l).Balanced a := by
  have torn := h.teardown records l .protocolError
  rw [protocolReset_eq]
  generalize s.teardown l .protocolError = t at torn
  exact postAll (setLink torn rfl)

theorem fell (h : s.Balanced a) (l : LinkId) (st : LinkState) (r : Reason) (o : OwedLink) : (s.fell l st r o).Balanced a :=
  postAll (setLink h rfl)

/-- A link enters UP with an empty retransmission list (R39). -/
theorem establish (h : s.Balanced a) (hr : (s.link l).rtx = []) (peer : Byte) (agreed : Nat) : (s.establish l peer agreed).Balanced a :=
  postAll (setLink h hr.symm)

theorem touchIdle (h : s.Balanced a) (l : LinkId) : (s.setLink l (s.link l).touchIdle).Balanced a := by
  rw [touchIdle_eq]; exact setLink h rfl

/-- A frame that carries nr (R55), by what it does in UP after a valid nr. -/
theorem withNr (h : s.Balanced a) (records : s.RecordsOk) {nr : Seq} {act : State → State}
    (ha : ∀ u : State, u.Balanced a → u.RecordsOk → (act u).Balanced a) : (s.withNr l nr act).Balanced a := by
  unfold State.withNr
  dsimp only
  split
  · exact h
  split
  · exact ha _ ((h.touchIdle l).acknowledge records l nr) (tableRecords.acknowledge nr records)
  · exact (h.touchIdle l).protocolReset records l

theorem takeSequenced (h : s.Balanced a) (records : s.RecordsOk) {ns nr : Seq} {deliver : State → State}
    (hd : ∀ u : State, u.Balanced a → u.RecordsOk → (deliver u).Balanced a) : (s.takeSequenced l ns nr deliver).Balanced a := by
  refine h.withNr records fun u hu ru => ?_
  dsimp only
  split
  · exact hd _ (hu.same (.setLink_rtx (by rw [accepted_eq]))) ru
  · refine hu.same (.setLink_rtx ?_)
    unfold Link.outOfSequence
    dsimp only
    split <;> rfl

/-! ## Sessions -/

theorem vacate (h : s.Balanced a) (p : Slot) (l : LinkId) : (s.vacate p l).Balanced a := by
  unfold State.vacate
  dsimp only
  split
  · split
    · exact setLink h rfl
    · exact postOthers (setLink h rfl)
  · exact h

theorem endSession (h : s.Balanced a) (records : s.RecordsOk) (p : Slot) : (s.endSession p).Balanced a := by
  have ended : (s.endSessionRecords p).Balanced a := by
    refine (List.foldlRecOn (motive := fun u : State => u.Balanced a ∧ u.RecordsOk) _ _ ⟨h, records⟩ fun u ⟨hu, ru⟩ i _ => ?_).1
    split
    · exact ⟨hu.giveUp ru, tableRecords.giveUp ru⟩
    · exact ⟨hu, ru⟩
  have vacated := (ended.vacate p 0).vacate p 1
  unfold State.endSession
  generalize ((s.endSessionRecords p).vacate p 0).vacate p 1 = t at vacated
  exact setPort vacated rfl

end State.Balanced
end Sys2Proof.Machine
end

section
/-! SUPPORT. The books of the pool across the frames handed to the channel table, the link frames, the expiries and the commands of a
link, and across the taking of a received message (R117). -/

namespace Sys2Proof.Machine

namespace State.Balanced
variable {s : State} {a : Account} {i : ChanId} {l : LinkId}

/-! ## DATA (R97 to R99) -/

/-- Blocks placed are taken off the outstanding credit (R97). -/
theorem outstanding_placed {c : Chan} {b : Nat} (hb : b ≤ c.outstanding) (held : Nat) (q : List RxMsg) :
    ({ c with rxConsumed := c.rxConsumed + BitVec.ofNat 8 b, rxHeld := held, recvQ := q } : Chan).outstanding + b = c.outstanding := by
  simp only [Chan.outstanding] at *
  bv_omega

/-- A message placed within the outstanding credit: its blocks pass from FREE and R to RX (R97). -/
theorem place {payload : List Byte} (h : s.Balanced a) (hb : blocksOf payload.length ≤ (s.chan i).outstanding) :
    (s.place i payload).Balanced a := by
  have placed : ((s.setPool (s.pool.place (RxMsg.blocks ⟨i, payload⟩))).setChan i { s.chan i with
      rxConsumed := (s.chan i).rxConsumed + BitVec.ofNat 8 (RxMsg.blocks ⟨i, payload⟩)
      rxHeld := (s.chan i).rxHeld + RxMsg.blocks ⟨i, payload⟩, recvQ := (s.chan i).recvQ ++ [⟨i, payload⟩] }).Balanced a := by
    have within : RxMsg.blocks ⟨i, payload⟩ ≤ (s.chan i).outstanding := hb
    generalize hm : (⟨i, payload⟩ : RxMsg) = m at within
    have credit := outstanding_placed within ((s.chan i).rxHeld + m.blocks) ((s.chan i).recvQ ++ [m])
    have part := h.outstanding_le i
    have backed := h.backed
    refine h.change (h.toBalances.change i (fun j hj => chan_setChan_ne _ _ hj) h.ports ?_ (fun n => ?_) h.quota ?_ ?_ ?_
      (List.Sublist.refl _) fun hi => ?_) rfl ?_
    · simp only [pool_setChan, pool_setPool, Pool.place, Pool.tx]; omega
    · rw [chan_setChan]; rfl
    · rw [chan_setChan, heldBlocks_append, heldBlocks_cons, heldBlocks_nil]
      simp only [pool_setChan, pool_setPool, Pool.place]; omega
    · rw [chan_setChan]
      simp only [pool_setChan, pool_setPool, Pool.place] at *; omega
    · simp only [pool_setChan, pool_setPool, Pool.place]; omega
    · rw [chan_setChan]; exact h.waiting i hi
    · simp only [pool_setChan, pool_setPool, Pool.place, Pool.unreserved]; omega
  unfold State.place
  dsimp only
  split
  · exact postTo placed
  · exact placed

theorem deliverData (h : s.Balanced a) (records : s.RecordsOk) (dst src : ChanId) (payload : List Byte) :
    (s.deliverData l dst src payload).Balanced a := by
  unfold State.deliverData
  dsimp only
  split
  · rename_i hc
    replace hc : (s.chan dst).Flows := hc.2
    split
    · exact h.place ‹_›
    · exact postTo (abortChan (s := s.count l _) (count h) records hc.talks)
  · exact count h

/-! ## Channel frames -/

theorem refused (h : s.Balanced a) (dst src : ChanId) (r : Reason) : ((s.refuseOpen l dst src r).stray l).Balanced a := count (answer h)

theorem deliverOpen (h : s.Balanced a) (records : s.RecordsOk) (dst src : ChanId) (w : Nat) : (s.deliverOpen l dst src w).Balanced a := by
  unfold State.deliverOpen
  dsimp only
  split <;> rename_i hs
  · exact h.refused _ _ _
  · split
    · split
      · exact h.acceptOpen records hs ‹_› src w
      · exact answer (setChan h rfl)
    · exact h.refused _ _ _
  · split
    · exact h.crossOpen records hs w
    · exact h.refused _ _ _
  all_goals exact h.refused _ _ _

theorem deliverAccept (h : s.Balanced a) (records : s.RecordsOk) (dst src : ChanId) (w : Nat) :
    (s.deliverAccept l dst src w).Balanced a := by
  unfold State.deliverAccept
  dsimp only
  split
  · rename_i hc
    exact h.enterOpen records hc.2.1 w
  · exact count h

theorem deliverRefuse (h : s.Balanced a) (records : s.RecordsOk) (dst src : ChanId) (r : Reason) :
    (s.deliverRefuse l dst src r).Balanced a := by
  unfold State.deliverRefuse
  dsimp only
  split
  · rename_i hc
    exact h.endChan records (.inl hc.2.1) r
  split
  · rename_i hc
    exact h.freeAborted records hc.2
  · exact count h

theorem deliverClose (h : s.Balanced a) (records : s.RecordsOk) (dst src : ChanId) (abort : Bool) :
    (s.deliverClose l dst src abort).Balanced a := by
  refine answer ?_
  unfold State.closeEffect
  dsimp only
  split
  · split <;> rename_i hs
    · exact h.endChan records (.inl hs) _
    · exact h.endChan records (.inr (.inl hs)) _
    · split
      · exact h
      · exact h.endChan records (.inr (.inr hs)) _
    · split
      · exact h
      · exact h.freeAborted records hs
    all_goals exact count h
  · exact count h

theorem deliverClosed (h : s.Balanced a) (records : s.RecordsOk) (dst src : ChanId) : (s.deliverClosed l dst src).Balanced a := by
  unfold State.deliverClosed
  dsimp only
  split
  · split <;> rename_i hs
    · exact h.endChan records (.inr (.inr hs)) _
    · exact h.freeAborted records hs
    all_goals exact count h
  · exact count h

theorem deliverCredit (h : s.Balanced a) (dst src : ChanId) (limit : Credit) : (s.deliverCredit l dst src limit).Balanced a := by
  unfold State.deliverCredit
  dsimp only
  split
  · split
    · exact setChan h rfl
    · exact h
  · exact count h

/-! ## Link frames -/

/-- A link enters UP from a state other than UP, in which no frame is unacknowledged (R39, R50). -/
theorem establish_down (h : s.Balanced a) (links : s.LinksOk) (hs : (s.link l).state ≠ .up) (peer : Byte) (agreed : Nat) :
    (s.establish l peer agreed).Balanced a := by
  obtain ⟨-, -, -, empty, -⟩ := (links l).down hs
  exact h.establish empty peer agreed

theorem openInUp (h : s.Balanced a) (records : s.RecordsOk) (sender : Byte) (window : Nat) : (s.openInUp l sender window).Balanced a := by
  by_cases hp : (s.link l).peerEpoch = some sender
  · have duplicate : s.openInUp l sender window = s.setLink l (s.link l).touchIdle.oweAccept := if_pos hp
    rw [duplicate, touchIdle_eq]
    exact setLink h rfl
  · have torn := h.teardown records l .peerRestart
    have empty := teardown_rtx s l .peerRestart
    rw [openInUp_restarts window hp]
    generalize s.teardown l .peerRestart = t at torn empty
    exact postAll (setLink torn empty.symm)

theorem takeLinkOpen (h : s.Balanced a) (records : s.RecordsOk) (links : s.LinksOk) (sender : Byte) (window : Nat) :
    (s.takeLinkOpen l sender window).Balanced a := by
  unfold State.takeLinkOpen
  dsimp only
  split <;> rename_i hs
  · exact setLink (h.establish_down links (by simp [hs]) _ _) rfl
  · exact setLink (h.establish_down links (by simp [hs]) _ _) rfl
  · exact h.openInUp records _ _
  all_goals exact h

theorem takeLinkAccept (h : s.Balanced a) (links : s.LinksOk) (echoed sender : Byte) (window : Nat) :
    (s.takeLinkAccept l echoed sender window).Balanced a := by
  unfold State.takeLinkAccept
  dsimp only
  split <;> rename_i hs
  · split
    · exact h.establish_down links (by simp [hs]) _ _
    · exact h
  · exact h.touchIdle l
  all_goals exact h

theorem completeStop (h : s.Balanced a) (r : Reason) : (s.completeStop l r).Balanced a := by
  rw [completeStop_eq]; exact h.fell ..

theorem enterFailed (h : s.Balanced a) (r : Reason) : (s.enterFailed l r).Balanced a := by
  rw [enterFailed_eq]; exact h.fell ..

theorem takeLinkClose (h : s.Balanced a) (records : s.RecordsOk) : (s.takeLinkClose l).Balanced a := by
  cases hs : (s.link l).state with
  | up => rw [takeLinkClose_up hs]; exact (h.teardown records l _).fell ..
  | stopping => rw [takeLinkClose_stopping hs]; exact h.fell ..
  | down | listening | starting | failed => rw [takeLinkClose_elsewhere (by simp [hs])]; exact setLink h rfl

theorem takeLinkClosed (h : s.Balanced a) : (s.takeLinkClosed l).Balanced a := by
  unfold State.takeLinkClosed
  split
  · exact h.completeStop _
  · exact h.touchIdle l
  all_goals exact h

/-! ## Line-ready and expiries -/

theorem lineLost (h : s.Balanced a) (records : s.RecordsOk) (l : LinkId) : (s.lineLost l).Balanced a := by
  unfold State.lineLost
  split
  · exact h.enterFailed _
  · exact (h.teardown records l _).enterFailed _
  · exact h.completeStop _
  all_goals exact h

theorem respExpired (h : s.Balanced a) (records : s.RecordsOk) (l : LinkId) : (s.respExpired l).Balanced a := by
  unfold State.respExpired
  dsimp only
  split
  · split
    · exact h.enterFailed _
    · exact setLink h rfl
  · split
    · exact h.completeStop _
    · exact setLink h rfl
  · split
    · exact (h.teardown records l _).enterFailed _
    · exact setLink h rfl
  all_goals exact h

/-! ## Commands of a link -/

theorem stopLink (h : s.Balanced a) (records : s.RecordsOk) : (s.stopLink l).Balanced a := by
  cases hs : (s.link l).state with
  | listening | failed => rw [stopLink_falls (by simp [hs])]; exact h.fell ..
  | starting => rw [stopLink_starting hs]; exact h.fell ..
  | up =>
    have torn := h.teardown records l .stopped
    rw [stopLink_up hs]
    generalize s.teardown l .stopped = t at torn
    exact setLink torn rfl
  | down | stopping =>
    have none : s.stopLink l = s := by simp only [State.stopLink, hs]
    rw [none]; exact h

theorem startLink (h : s.Balanced a) (p : Slot) (q : Params) : (s.startLink p l q).Balanced a := by
  have rtx : ((s.link l).started p q).rtx = (s.link l).rtx := by unfold Link.started; dsimp only; split <;> rfl
  exact setLine (setLink h rtx)

theorem doLinkStart (h : s.Balanced a) (p : Slot) (body : List Byte) (hd : ReqHeader) (st : Staging) :
    (State.doLinkStart p body hd st s).1.Balanced a := by
  unfold State.doLinkStart
  split
  · exact h
  split
  · exact h
  dsimp only
  split
  · exact h
  · exact h
  · exact h
  · exact h
  · exact h.startLink p _
  · split
    · exact h.startLink p _
    · exact h

theorem doLinkStop (h : s.Balanced a) (records : s.RecordsOk) (p : Slot) (body : List Byte) (hd : ReqHeader) (st : Staging) :
    (State.doLinkStop p body hd st s).1.Balanced a := by
  unfold State.doLinkStop
  split
  · exact h
  dsimp only
  split
  · exact h
  split
  · exact h
  · exact h.stopLink records

theorem doLinkClaim (h : s.Balanced a) (p : Slot) (body : List Byte) (hd : ReqHeader) (st : Staging) :
    (State.doLinkClaim p body hd st s).1.Balanced a := by
  unfold State.doLinkClaim
  split
  · exact h
  dsimp only
  split
  · exact h
  split
  · exact setLink h rfl
  · split <;> exact h

/-! ## Commands of a channel -/

theorem doChListen (h : s.Balanced a) (records : s.RecordsOk) (p : Slot) (body : List Byte) (hd : ReqHeader) (st : Staging) :
    (State.doChListen p body hd st s).1.Balanced a := by
  unfold State.doChListen
  dsimp only
  split
  · exact h
  split
  · exact h
  · exact h
  · rename_i hr
    have hs := free_of_resolve hr
    have free := (records _).free hs
    exact h.becomes (.setQuiet (by rw [hs]; rfl) rfl) (.setChan (.refl s) _) (fun _ => rfl) rfl (by rw [free]; rfl) (by rw [free]; rfl)
      (by rw [free]; rfl) fun hi => absurd hi (h.off_list (by simp [hs]))

theorem doChOpen (h : s.Balanced a) (records : s.RecordsOk) (p : Slot) (body : List Byte) (hd : ReqHeader) (st : Staging) :
    (State.doChOpen p body hd st s).1.Balanced a := by
  unfold State.doChOpen
  dsimp only
  split
  · exact h
  rename_i hb
  split
  · exact h
  · exact h
  · rename_i hr
    simp only [TakeBody.badOpen, Bool.or_eq_true, decide_eq_true_eq, not_or, not_lt, Bool.not_eq_true] at hb
    split
    · exact h
    split
    · exact h
    · rename_i room
      exact h.openRecord records (free_of_resolve hr) (window_of_not_bad hb.1).2 (Nat.le_of_not_lt room) p

theorem doChClose (h : s.Balanced a) (p : Slot) (body : List Byte) (hd : ReqHeader) (st : Staging) :
    (State.doChClose p body hd st s).1.Balanced a := by
  unfold State.doChClose
  split
  · exact h
  split
  · exact h
  · exact h.closeRecord

theorem doChRelease (h : s.Balanced a) (records : s.RecordsOk) (p : Slot) (body : List Byte) (hd : ReqHeader) (st : Staging) :
    (State.doChRelease p body hd st s).1.Balanced a := by
  unfold State.doChRelease
  split
  · exact h
  dsimp only
  split
  · exact h
  · exact h.giveUp records

/-! ## Grants of a RECV (R100, R117) -/

/-- The grant computed for a record named by a RECV: a record whose want is not met joins the credit-owed list (R100). -/
theorem grant (h : s.Balanced a) (records : s.RecordsOk) : (s.grant i).Balanced a := by
  unfold State.grant
  dsimp only
  split
  · exact h
  rename_i ho
  have opened : (s.chan i).state = .opened := not_not.mp ho
  have openWant : (s.chan i).openWant = (s.chan i).want := if_pos opened
  generalize hg : min (s.chan i).want s.pool.unreserved = g
  obtain ⟨chans, -, -, pool⟩ := raiseGrant_spec s i g fun _ => opened
  have raised : (s.raiseGrant i g).Balanced a :=
    h.change (h.toBalances.raiseGrant records (by omega) (by omega)) (by rw [pool]) (by rw [pool]; simp only [Pool.unreserved]; omega)
  split
  · rename_i short
    simp only [Bool.and_eq_true, decide_eq_true_eq, Bool.not_eq_true', List.contains_eq_mem, decide_eq_false_iff_not] at short
    obtain ⟨part, new⟩ := short
    have taken : (s.raiseGrant i g).pool.unreserved = 0 := by rw [pool]; simp only [Pool.unreserved] at *; omega
    exact { raised with
      once := List.nodup_append_comm.mp (List.nodup_cons.mpr ⟨new, raised.once⟩ : ([i] ++ (s.raiseGrant i g).pool.creditOwed).Nodup)
      waiting := fun j hj => by
        rcases List.mem_append.mp hj with hj | hj
        · exact raised.waiting j hj
        · obtain rfl : j = i := by simpa using hj
          exact (chans j).state.trans opened
      short := fun _ => taken }
  · exact raised

end State.Balanced
end Sys2Proof.Machine
end

section
/-! SUPPORT. The books of the pool across the transactions of a host port: the staging claim (R92), the requests (R93, R109, R117), the
reads (R157) and the resets (R160, R169). -/

namespace Sys2Proof.Machine

/-! ## What is put down to the ports -/

/-- The account when what port `p` stages has been passed on or given up. -/
def Account.unstage (a : Account) (p : Slot) : Account := { a with staged := fun n => if n = p then 0 else a.staged n }

/-- The account when port `p` has staged `b` blocks more. -/
def Account.stage (a : Account) (p : Slot) (b : Nat) : Account := { a with staged := fun n => a.staged n + if n = p then b else 0 }

@[simp] theorem stage_zero (a : Account) (p : Slot) : a.stage p 0 = a := by simp [Account.stage]

/-- The account when `b` blocks have passed from a receive queue to a response. -/
def Account.answer (a : Account) (b : Nat) : Account := { a with answered := a.answered + b }

theorem unstage_of_zero {a : Account} {p : Slot} (h : a.staged p = 0) : a.unstage p = a := by
  have same : (a.unstage p).staged = a.staged := funext fun n => by
    simp only [Account.unstage]
    split
    · rename_i e; rw [e, h]
    · rfl
  cases a
  simp only [Account.unstage] at same ⊢
  rw [same]

/-- The blocks that the responses of the ports hold at an account. -/
def Account.responses (a : Account) : Nat := (allSlots.map fun q => (a.port q).2).sum

theorem heldMsgs_append (rs : List Response) (r : Response) : heldMsgs (rs ++ [r]) = heldMsgs rs ++ r.msg.toList := by
  cases h : r.msg <;> simp [heldMsgs, h]

/-- A sum over the slots when one term is replaced. -/
theorem sum_allSlots_replace (f : Slot → Nat) (p : Slot) (x : Nat) :
    (allSlots.map fun q => if q = p then x else f q).sum + f p = (allSlots.map f).sum + x := by
  have one : p = 0 ∨ p = 1 ∨ p = 2 := by fin_cases p <;> simp
  rcases one with rfl | rfl | rfl <;> simp [allSlots_eq] <;> omega

theorem tx_eq_sum (q : Pool) : q.tx = (allSlots.map fun n : Slot => q.usage[n]).sum := by
  simp [allSlots_eq, Pool.tx, Nat.add_assoc]

/-- The TX count when the charge of one slot is replaced (R91). -/
theorem tx_of_usage {q r : Pool} {p : Slot} {x : Nat} (h : ∀ n : Slot, r.usage[n] = if n = p then x else q.usage[n]) :
    r.tx + q.usage[p] = q.tx + x := by
  have replaced := sum_allSlots_replace (fun n => q.usage[n]) p x
  rw [tx_eq_sum, tx_eq_sum, List.map_congr_left fun n _ => h n]
  exact replaced

/-- A staging claim that is not refused is within the quota and within free-unreserved (R92). -/
theorem stagingRefusal_none {q : Pool} {p : Slot} {b : Nat} (h : q.stagingRefusal p b = none) :
    q.usage[p] + b ≤ 192 ∧ b ≤ q.unreserved := by
  unfold Pool.stagingRefusal at h
  split at h
  · cases h
  split at h
  · cases h
  · exact ⟨Nat.le_of_not_lt ‹_›, Nat.le_of_not_lt ‹_›⟩

namespace State.Balanced
variable {s u : State} {a : Account} {p : Slot}

/-- A change of what is put down to the ports, with the blocks of the pool. -/
theorem repool {b : Account} {q : Pool} (h : s.Balanced a) (ports : b.port = a.port) (total : q.free + q.tx + q.rx = 1024)
    (usage : ∀ n : Slot, q.usage[n] + a.staged n = s.pool.usage[n] + b.staged n) (quota : ∀ n : Slot, q.usage[n] ≤ 192)
    (rx : q.rx + a.answered = s.pool.rx + b.answered) (reserved : q.reserved = s.pool.reserved) (backed : q.reserved ≤ q.free)
    (list : q.creditOwed = s.pool.creditOwed) : (s.setPool q).Balances b :=
  h.toBalances.change 0 (fun _ _ => rfl) (fun n => by rw [ports]; exact h.ports n) (total.trans h.total.symm)
    (fun n => by
      have e : (s.setPool q).unacked n = s.unacked n := rfl
      have := usage n
      simp only [chan_setPool, pool_setPool, e]
      omega)
    quota (by simp only [chan_setPool, pool_setPool]; omega) (by rw [pool_setPool, reserved]; rfl) backed (by rw [pool_setPool, list])
    fun hi => h.waiting 0 (list ▸ hi)

/-- Port `p` is written so that the ports hold what is put down to them. -/
theorem writePort {x : HostPort} (h : u.Balanced a)
    (staged : ∀ n, a.staged n = if n = p then x.txn.staging.blocks else (a.port n).1)
    (answered : a.answered + (a.port p).2 = a.responses + heldBlocks (heldMsgs x.responses)) : (u.setPort p x).PoolOk := by
  have holds (n : Slot) : ((u.setPort p x).port n).holds = if n = p then x.holds else a.port n := by
    rw [port_setPort_ite]
    split
    · rfl
    · exact h.ports n
  have stagedNow (n : Slot) : (u.setPort p x).account.staged n = a.staged n := by
    rw [staged]
    refine (congrArg Prod.fst (holds n)).trans ?_
    split <;> rfl
  have answeredNow : (u.setPort p x).account.answered = a.answered := by
    have each : ((u.setPort p x).account.answered) =
        (allSlots.map fun q => if q = p then heldBlocks (heldMsgs x.responses) else (a.port q).2).sum := by
      refine congrArg List.sum (List.map_congr_left fun q _ => ?_)
      refine (congrArg Prod.snd (holds q)).trans ?_
      split <;> rfl
    have replaced := sum_allSlots_replace (fun q => (a.port q).2) p (heldBlocks (heldMsgs x.responses))
    rw [each]
    simp only [Account.responses] at answered
    omega
  refine poolOk_iff.mpr { h with
    ports := fun _ => rfl
    usage := fun n => by rw [stagedNow]; exact h.usage n
    rx := by rw [answeredNow]; exact h.rx }

/-! ## Staging (R92, R93, R109) -/

/-- A staged message is freed (R93). -/
theorem freeStaged {st : Staging} (h : s.Balanced a) (records : s.RecordsOk) (hs : a.staged p = st.blocks) :
    (s.freeStaged p st).Balanced (a.unstage p) := by
  cases st with
  | none | refused _ => rw [unstage_of_zero hs]; exact h
  | granted len =>
    have books := h.usage p
    have freed : (s.setPool (s.pool.freeTx p (blocksOf len))).Balances (a.unstage p) := by
      have usage (n : Slot) : (s.pool.freeTx p (blocksOf len)).usage[n] =
          if n = p then s.pool.usage[p] - blocksOf len else s.pool.usage[n] := usage_set ..
      replace hs : a.staged p = blocksOf len := hs
      refine h.repool rfl ?_ (fun n => ?_) (fun n => ?_) rfl rfl (h.backed.trans (Nat.le_add_right ..)) rfl
      · have total := h.total
        have tx := tx_of_usage usage
        simp only [Pool.freeTx] at tx ⊢
        omega
      · have := usage n
        simp only [Account.unstage]
        split
        · rename_i e; subst e; rw [this, if_pos rfl]; omega
        · rename_i e; rw [this, if_neg e]
      · rw [usage]
        split
        · have := h.quota p; omega
        · exact h.quota n
    exact freed.serve records

/-- A staging claim granted: the blocks pass from FREE to the slot (R92). -/
theorem stage {b : Nat} (h : s.Balanced a) (quota : s.pool.usage[p] + b ≤ 192) (room : b ≤ s.pool.unreserved) :
    (s.setPool (s.pool.stage p b)).Balanced (a.stage p b) := by
  have usage (n : Slot) : (s.pool.stage p b).usage[n] = if n = p then s.pool.usage[p] + b else s.pool.usage[n] := usage_set ..
  have backed := h.backed
  simp only [Pool.unreserved] at room
  refine h.change (h.repool rfl ?_ (fun n => ?_) (fun n => ?_) rfl rfl ?_ rfl) rfl ?_
  · have total := h.total
    have tx := tx_of_usage usage
    simp only [Pool.stage] at tx ⊢
    omega
  · rw [usage]
    simp only [Account.stage]
    split
    · rename_i e; subst e; omega
    · omega
  · rw [usage]
    split
    · exact quota
    · exact h.quota n
  · simp only [Pool.stage]; omega
  · simp only [pool_setPool, Pool.stage, Pool.unreserved]; omega

/-- The staging claim at a header takes from FREE what it stages (R92, R108). -/
theorem stagingClaim (h : s.Balanced a) (len : Nat) :
    (s.stagingClaim p len).1.Balanced (a.stage p (s.stagingClaim p len).2.blocks) := by
  have nothing : s.Balanced (a.stage p 0) := by rw [stage_zero]; exact h
  unfold State.stagingClaim
  dsimp only
  split
  · exact nothing
  split
  · exact nothing
  · rename_i granted
    obtain ⟨quota, room⟩ := stagingRefusal_none granted
    exact h.stage quota room

/-- A staged message joins a send queue (R109). -/
theorem queueMessage {i : ChanId} {m : TxMsg} (h : s.Balanced a) (slot : m.slot = p) (blocks : m.blocks = a.staged p) :
    (s.queueMessage i m).Balanced (a.unstage p) := by
  refine h.change (h.toBalances.change i (fun j hj => chan_setChan_ne _ _ hj) h.ports rfl (fun n => ?_) h.quota ?_ ?_ h.backed
    (List.Sublist.refl _) fun hi => ?_) rfl le_rfl
  · have e : (s.queueMessage i m).unacked n = s.unacked n := rfl
    simp only [State.queueMessage, chan_setChan, chargedBlocks_append, chargedBlocks_cons, chargedBlocks_nil, slot, Account.unstage,
      pool_setChan] at e ⊢
    rw [e]
    split
    · rename_i hn; rw [hn]; omega
    · omega
  · simp only [State.queueMessage, chan_setChan]; rfl
  · simp only [State.queueMessage, chan_setChan]; rfl
  · simp only [State.queueMessage, chan_setChan]; exact h.waiting i hi

/-! ## Received messages (R94, R117) -/

/-- The head message of a receive queue passes to a response (R117). -/
theorem popReceived {i : ChanId} {m : RxMsg} {rest : List RxMsg} (h : s.Balanced a) (hq : (s.chan i).recvQ = m :: rest) :
    (s.popReceived i m).Balanced (a.answer m.blocks) := by
  refine h.change (h.toBalances.change i (fun j hj => chan_setChan_ne _ _ hj) h.ports rfl (fun n => ?_) h.quota ?_ ?_ h.backed
    (List.Sublist.refl _) fun hi => ?_) rfl le_rfl
  · simp only [State.popReceived, chan_setChan]; rfl
  · simp only [State.popReceived, chan_setChan, hq, List.tail_cons, heldBlocks_cons, Account.answer, pool_setChan]; omega
  · simp only [State.popReceived, chan_setChan]; rfl
  · simp only [State.popReceived, chan_setChan]; exact h.waiting i hi

/-- The messages of responses are freed (R94). -/
theorem freeAnswered {ms : List RxMsg} {n : Nat} (h : s.Balanced a) (records : s.RecordsOk) (hn : a.answered = n + heldBlocks ms) :
    (s.freeRxMsgs ms).serve.Balanced { a with answered := n } := by
  have books := h.rx
  have total := h.total
  have freed : (s.freeRxMsgs ms).Balances { a with answered := n } := by
    rw [freeRxMsgs_eq]
    refine h.repool rfl ?_ (fun _ => rfl) h.quota ?_ rfl (h.backed.trans (Nat.le_add_right ..)) rfl
    · simp only [Pool.tx] at *; omega
    · dsimp only; omega
  exact freed.serve records

end State.Balanced
end Sys2Proof.Machine
end

section
/-! SUPPORT. Every step keeps the law of the buffer pool (R87, R88, R91, R100, R101), command by command. -/

namespace Sys2Proof.Machine

/-! ## Ports that take no transaction -/

/-- A port that takes no transaction stages nothing: it is held by device reset, or in RESET (R161, R169). -/
theorem State.PortsOk.unstaged {s : State} {p : Slot} (ports : s.PortsOk) (h : s.portLive p = false ∨ (s.port p).txn = .ignore) :
    (s.port p).txn.staging = .none := by
  rcases h with h | h
  · simp only [State.portLive, Bool.and_eq_false_iff, Bool.not_eq_false', bne_eq_false_iff_eq] at h
    rcases h with low | reset
    · rw [ports.held low p]; rfl
    · obtain ⟨-, -, txn | txn⟩ := (ports.ok p).inReset reset <;> rw [txn] <;> rfl
  · rw [h]; rfl

/-- A SEND that passes its checks has its message staged (R108, R109). -/
theorem staged_of_sendCheck {s : State} {p : Slot} {h : ReqHeader} {st : Staging} {body : List Byte} {i : ChanId}
    (e : s.sendCheck p h st body = .ok i) {session : Session} (fits : st.fits h session) : st = .granted (h.len.toNat - 3) := by
  have result : st.result = .ok := by
    unfold State.sendCheck at e
    split at e
    · cases e
    split at e
    · cases e
    dsimp only at e
    split_ifs at e with h1 h2 h3 h4
    exact not_not.mp h4
  cases st with
  | granted n => obtain ⟨-, rfl⟩ := fits; rfl
  | none => cases result
  | refused r => obtain ⟨-, rfl | rfl⟩ := fits <;> cases result

theorem restingTxn_staging (low : Bool) : (restingTxn low).staging = .none := by cases low <;> rfl

namespace State.PoolOk
variable {s u : State} {p : Slot} {l : LinkId}

theorem same (h : s.PoolOk) (e : SameBooks s u) : u.PoolOk := ((poolOk_iff.mp h).same e).poolOk

theorem settle (h : s.PoolOk) : s.settle.PoolOk := (poolOk_iff.mp h).settle.poolOk

theorem setPort {x : HostPort} (h : s.PoolOk) (hx : x.holds = (s.port p).holds) : (s.setPort p x).PoolOk := h.same (.setPort hx)

theorem rise {bs : List Byte} (h : s.PoolOk) (hs : (s.port p).txn.staging = .none) : (s.rise p bs).PoolOk :=
  h.setPort (by simp only [HostPort.holds, hs]; rfl)

/-! ## Transactions -/

/-- A command that ends a transaction, by its effect on the transaction in progress (R150). -/
theorem endTransaction {n : Nat} {act : Txn → Option State} (h : s.PoolOk) (ports : s.PortsOk)
    (ha : ∀ u, act (s.port p).txn = some u → u.PoolOk) : Yields (s.endTransaction p n act) State.PoolOk := by
  unfold State.endTransaction
  split
  · exact yields_refused _
  split
  · rename_i idle
    simp only [Bool.or_eq_true, Bool.not_eq_true', decide_eq_true_eq] at idle
    exact yields_next (h.rise (ports.unstaged idle))
  split
  · exact yields_next (ha _ ‹_›)
  · exact yields_refused _

/-- A command that completes bytes inside a transaction (R150). -/
theorem midTransaction {n : Nat} {act : Txn → Option State} (h : s.PoolOk) (ha : ∀ u, act (s.port p).txn = some u → u.PoolOk) :
    Yields (s.midTransaction p n act) State.PoolOk := by
  unfold State.midTransaction
  dsimp only
  split
  · exact yields_next h
  split
  · exact yields_next (h.setPort rfl)
  split
  · exact yields_next (ha _ ‹_›)
  · exact yields_refused _

/-! ## Requests -/

/-- A request answered: the port stages nothing more, and its response holds the message of the reply (R154, R156). -/
theorem answered {hd : ReqHeader} {r : Reply} {bs : List Byte}
    (h : u.Balanced ((s.account.unstage p).answer (heldBlocks r.msg.toList))) : ((u.updPort p fun x => x.respond hd r).rise p bs).PoolOk := by
  have answers : heldBlocks (heldMsgs (u.port p).responses) = (s.port p).holds.2 := congrArg Prod.snd (h.ports p)
  unfold State.updPort State.rise
  rw [setPort_setPort, port_setPort]
  refine h.writePort (fun n => rfl) ?_
  simp only [HostPort.respond, heldMsgs_append, heldBlocks_append, answers]
  have sum : ((s.account.unstage p).answer (heldBlocks r.msg.toList)).responses = s.account.answered := rfl
  rw [sum]
  simp only [Account.answer, Account.unstage, State.account]
  omega

/-- A request, by what its command makes of the books (R93, R154, R155). -/
theorem request {row : Byte → Bool} {body : List Byte} {act : Action} (h : s.PoolOk) (ports : s.PortsOk) (records : s.RecordsOk)
    (ha : ∀ hd st, (s.port p).txn = .writeBody hd st → row hd.code = true → hd.len.toNat = body.length →
      (act hd st s).1.Balanced ((s.account.unstage p).answer (heldBlocks (act hd st s).2.msg.toList))) :
    Yields (s.request p row body act) State.PoolOk := by
  refine h.endTransaction ports fun u hu => ?_
  split at hu
  · rename_i hd st ht
    obtain ⟨hr, hu⟩ := Option.ite_none_right_eq_some.mp hu
    cases hu
    unfold State.answerRequest
    refine answered (s := s) ?_
    have staged : s.account.staged p = st.blocks := by simp only [State.account, ht]; rfl
    cases hc : commonCheck hd body.length (decide ((s.port p).session = .attached)) with
    | some r => exact (poolOk_iff.mp h).freeStaged records staged
    | none =>
      refine ha hd st ht hr ?_
      by_contra length
      simp [commonCheck, Ne.symm length] at hc
  · cases hu

/-- The reply of a command carries no received message. -/
def carriesNone (s : State) (act : Action) : Prop := ∀ hd st, (act hd st s).2.msg = none

/-- A request of a row other than SEND has staged nothing (R108). -/
theorem plain_staged {row : Byte → Bool} {hd : ReqHeader} {st : Staging} (ports : s.PortsOk) (ht : (s.port p).txn = .writeBody hd st)
    (hr : row hd.code = true) (send : row 0x30#8 = false) : s.account.staged p = 0 := by
  have fits := (ports.ok p).staging hd st ht
  cases st with
  | granted n =>
    obtain ⟨⟨code, -⟩, -⟩ := fits
    rw [code, send] at hr
    cases hr
  | none | refused _ => simp only [State.account, ht]; rfl

/-- A request other than SEND, with no staged message, and other than RECV, with no message in its response. -/
theorem plainRequest {row : Byte → Bool} {body : List Byte} {act : Action} (h : s.PoolOk) (ports : s.PortsOk) (records : s.RecordsOk)
    (send : row 0x30#8 = false) (none : carriesNone s act) (ha : ∀ hd st, (act hd st s).1.Balanced s.account) :
    Yields (s.request p row body act) State.PoolOk := by
  refine h.request ports records fun hd st ht hr _ => ?_
  rw [none hd st, unstage_of_zero (plain_staged ports ht hr send)]
  exact ha hd st

/-! ## The commands with a request -/

section Replies
variable (s : State) (p : Slot) (body : List Byte)

theorem doAttach_none : carriesNone s (State.doAttach p) := fun _ _ => by unfold State.doAttach; split <;> rfl

theorem doLinkStart_none : carriesNone s (State.doLinkStart p body) := fun _ _ => by
  unfold State.doLinkStart
  split
  · rfl
  split
  · rfl
  dsimp only
  split
  · rfl
  · rfl
  · rfl
  · rfl
  · rfl
  · split <;> rfl

theorem doLinkStop_none : carriesNone s (State.doLinkStop p body) := fun _ _ => by
  unfold State.doLinkStop
  split
  · rfl
  · dsimp only; split_ifs <;> rfl

theorem doLinkClaim_none : carriesNone s (State.doLinkClaim p body) := fun _ _ => by
  unfold State.doLinkClaim
  split
  · rfl
  dsimp only
  split
  · rfl
  split
  · rfl
  · split <;> rfl

theorem doLinkQuery_none : carriesNone s (State.doLinkQuery body) := fun _ _ => by unfold State.doLinkQuery; split <;> rfl

theorem doChListen_none : carriesNone s (State.doChListen p body) := fun _ _ => by
  unfold State.doChListen
  dsimp only
  split
  · rfl
  · split <;> rfl

theorem doChOpen_none : carriesNone s (State.doChOpen p body) := fun _ _ => by
  unfold State.doChOpen
  dsimp only
  split
  · rfl
  split
  · rfl
  · rfl
  · split_ifs <;> rfl

theorem doChClose_none : carriesNone s (State.doChClose p body) := fun _ _ => by
  unfold State.doChClose
  split
  · rfl
  · split <;> rfl

theorem doChRelease_none : carriesNone s (State.doChRelease p body) := fun _ _ => by
  unfold State.doChRelease
  split
  · rfl
  · dsimp only; split <;> rfl

theorem doChQuery_none : carriesNone s (State.doChQuery body) := fun _ _ => by unfold State.doChQuery; split <;> rfl

end Replies

theorem execAttach (h : s.PoolOk) (ports : s.PortsOk) (records : s.RecordsOk) (body : List Byte) :
    Yields (Machine.execAttach p body s) State.PoolOk := by
  refine h.plainRequest ports records rfl (doAttach_none s p) fun hd st => ?_
  have books := poolOk_iff.mp h
  unfold State.doAttach
  split
  · exact books
  · exact .setPort books rfl

/-- A query leaves the state. -/
theorem query {row : Byte → Bool} {body : List Byte} {act : Action} (h : s.PoolOk) (ports : s.PortsOk) (records : s.RecordsOk)
    (send : row 0x30#8 = false) (none : carriesNone s act) (ha : ∀ hd st, (act hd st s).1 = s) :
    Yields (s.request p row body act) State.PoolOk :=
  h.plainRequest ports records send none fun hd st => by rw [ha]; exact poolOk_iff.mp h

theorem execLinkQuery (h : s.PoolOk) (ports : s.PortsOk) (records : s.RecordsOk) (body : List Byte) :
    Yields (Machine.execLinkQuery p body s) State.PoolOk :=
  h.query ports records rfl (doLinkQuery_none s body) fun _ _ => by unfold State.doLinkQuery; split <;> rfl

theorem execChQuery (h : s.PoolOk) (ports : s.PortsOk) (records : s.RecordsOk) (body : List Byte) :
    Yields (Machine.execChQuery p body s) State.PoolOk :=
  h.query ports records rfl (doChQuery_none s body) fun _ _ => by unfold State.doChQuery; split <;> rfl

/-- SEND: the blocks staged pass to the send queue, or are freed (R109). -/
theorem execSend (h : s.PoolOk) (ports : s.PortsOk) (records : s.RecordsOk) (body : List Byte) :
    Yields (Machine.execSend p body s) State.PoolOk := by
  have books := poolOk_iff.mp h
  refine yields_settled (fun _ => settle) (h.request ports records fun hd st ht _ length => ?_)
  have staged : s.account.staged p = st.blocks := by simp only [State.account, ht]; rfl
  unfold State.doSend
  split
  · exact books.freeStaged records staged
  · rename_i i taken
    have granted := staged_of_sendCheck taken ((ports.ok p).staging hd _ ht)
    have blocks : (sendMessage p i body).blocks = s.account.staged p := by
      rw [staged, granted, length]
      simp [sendMessage, TxMsg.blocks, Staging.blocks]
    exact books.queueMessage rfl blocks

/-- RECV: the message passes from the receive queue to the response (R117). -/
theorem execRecv (h : s.PoolOk) (ports : s.PortsOk) (records : s.RecordsOk) (body : List Byte) :
    Yields (Machine.execRecv p body s) State.PoolOk := by
  have books := poolOk_iff.mp h
  refine yields_settled (fun _ => settle) (h.request ports records fun hd st ht hr _ => ?_)
  have unstaged : s.account.unstage p = s.account := unstage_of_zero (plain_staged (row := (· == 0x31#8)) ports ht hr rfl)
  rw [unstaged]
  unfold State.doRecv
  split
  · exact books
  dsimp only
  split
  · exact books
  split
  · exact books
  · rename_i i _ _ m rest hq
    refine (books.popReceived hq).grant (tableRecords.setChan records rfl rfl rfl fun _ ok => Chan.popped_ok ok hq)

/-! ## Transactions without a request -/

theorem execTransactionCode (h : s.PoolOk) (code : Byte) : Yields (Machine.execTransactionCode p code s) State.PoolOk := by
  refine h.midTransaction fun u e => ?_
  split at e <;> cases e
  rename_i ht
  have unstaged : ((s.port p).afterCode code).staging = .none := by unfold HostPort.afterCode; split_ifs <;> rfl
  exact h.setPort (by simp only [HostPort.holds, unstaged, ht]; rfl)

/-- The staging claim of a SEND, and no other, takes blocks from FREE (R92, R108). -/
theorem execWriteRequestHeader (h : s.PoolOk) (tag code : Byte) (len : Byte × Byte) :
    Yields (Machine.execWriteRequestHeader p tag code len s) State.PoolOk := by
  unfold Machine.execWriteRequestHeader
  dsimp only
  refine h.midTransaction fun u e => ?_
  split at e
  · rename_i ht
    split at e <;> cases e
    · exact h.setPort (by simp only [HostPort.holds, ht]; rfl)
    · have books := poolOk_iff.mp h
      generalize hc : (if code = 0x30#8 ∧ (s.port p).session = .attached then
        s.stagingClaim p (BitVec.ofNat 16 (fromBe16 len.1 len.2)).toNat else (s, .none)) = claim
      have claimed : claim.1.Balanced (s.account.stage p claim.2.blocks) := by
        rw [← hc]
        split
        · exact books.stagingClaim _
        · rw [show Staging.blocks (s, Staging.none).2 = 0 from rfl, stage_zero]; exact books
      have before : s.account.staged p = 0 := by simp only [State.account, ht]; rfl
      refine claimed.writePort (fun n => ?_) rfl
      by_cases e : n = p
      · subst e
        simp only [Account.stage, before, if_true, Nat.zero_add]
        rfl
      · simp only [Account.stage, if_neg e]
        rfl
  · cases e

theorem execStatusTransaction (h : s.PoolOk) (ports : s.PortsOk) (n : Nat) :
    Yields (Machine.execStatusTransaction p n s) State.PoolOk := by
  refine h.endTransaction ports fun u e => ?_
  split at e <;> cases e
  rename_i ht
  exact h.rise (by rw [ht]; rfl)

theorem execReadEvent (h : s.PoolOk) (ports : s.PortsOk) (n : Nat) : Yields (Machine.execReadEvent p n s) State.PoolOk := by
  refine h.endTransaction ports fun u e => ?_
  split at e
  · rename_i ht
    cases e
    exact h.rise (by rw [ht]; rfl)
  · rename_i ht
    cases e
    have unstaged : (s.port p).txn.staging = .none := by rw [ht]; rfl
    split
    · exact State.PoolOk.rise (s := s.updPort p _) (h.setPort rfl) (by simp only [State.updPort, port_setPort]; exact unstaged)
    · exact h.rise unstaged
  · cases e

theorem execIgnoredTransactionEnd (h : s.PoolOk) (ports : s.PortsOk) (n : Nat) :
    Yields (Machine.execIgnoredTransactionEnd p n s) State.PoolOk := by
  refine h.endTransaction ports fun u e => ?_
  split at e
  · rename_i ht
    cases e
    exact h.rise (by rw [ht]; rfl)
  · rename_i ht
    cases e
    exact h.rise (by rw [ht]; rfl)
  · cases e

/-- A response read to its end leaves the queue, and the message that it carries is freed (R157, R94). -/
theorem removeResponse {r : Response} {rest : List Response} {bs : List Byte} (h : s.PoolOk) (records : s.RecordsOk)
    (hr : (s.port p).responses = r :: rest) (hs : (s.port p).txn.staging = .none) : ((s.removeResponse p r).rise p bs).PoolOk := by
  unfold State.removeResponse
  dsimp only
  split
  · rename_i m hm
    have books := poolOk_iff.mp h
    have part : heldBlocks (heldMsgs (s.port p).responses) = m.blocks + heldBlocks (heldMsgs rest) := by simp [hr, heldMsgs, hm]
    have within : heldBlocks (heldMsgs (s.port p).responses) ≤ s.account.answered :=
      List.le_sum_of_mem (List.mem_map_of_mem (List.mem_finRange p))
    have freed := books.freeAnswered (ms := [m]) (n := s.account.answered - m.blocks) records
      (by simp only [heldBlocks_cons, heldBlocks_nil]; omega)
    unfold State.updPort State.rise
    rw [freeRxMsgs_setPort, serve_setPort, setPort_setPort, port_setPort]
    refine freed.writePort (fun n => ?_) ?_
    · split
      · rename_i e; subst e; exact congrArg Staging.blocks hs
      · rfl
    · have sum : s.account.answered - m.blocks + heldBlocks (heldMsgs (s.port p).responses)
          = s.account.answered + heldBlocks (heldMsgs (s.port p).responses.tail) := by
        rw [hr, List.tail_cons, ← hr]; omega
      exact sum
  · rename_i hm
    unfold State.updPort State.rise
    rw [setPort_setPort, port_setPort]
    exact h.setPort (by simp only [HostPort.holds, hs, hr, heldMsgs, List.filterMap_cons, hm]; rfl)

theorem execReadResponse (h : s.PoolOk) (ports : s.PortsOk) (records : s.RecordsOk) (n : Nat) :
    Yields (Machine.execReadResponse p n s) State.PoolOk := by
  refine yields_settled (fun _ => settle) (h.endTransaction ports fun u e => ?_)
  split at e
  · rename_i ht
    cases e
    exact h.rise (by rw [ht]; rfl)
  · rename_i r ht
    cases e
    have unstaged : (s.port p).txn.staging = .none := by rw [ht]; rfl
    obtain ⟨rest, hr⟩ : ∃ rest, (s.port p).responses = r :: rest := List.head?_eq_some_iff.mp ((ports.ok p).chosenResponse r ht)
    split
    · exact h.removeResponse records hr unstaged
    · exact h.rise unstaged
  · cases e

theorem execChipSelectFalls (h : s.PoolOk) (ports : s.PortsOk) : Yields (Machine.execChipSelectFalls p s) State.PoolOk := by
  unfold Machine.execChipSelectFalls
  dsimp only
  split
  · exact yields_refused _
  rename_i high
  have idle := (ports.ok p).idle (by simpa using high)
  split
  · exact yields_next (h.setPort rfl)
  split
  all_goals exact yields_next (h.setPort (by simp only [HostPort.holds, idle]; rfl))

/-! ## Resets -/

theorem resetPort (h : s.PoolOk) (records : s.RecordsOk) (p : Slot) : (s.resetPort p).PoolOk := by
  have staged := (poolOk_iff.mp h).freeStaged (p := p) (st := (s.port p).txn.staging) records rfl
  have recordsThen := tableRecords.freeStaged p (s.port p).txn.staging records
  unfold State.resetPort
  dsimp only
  generalize s.freeStaged p (s.port p).txn.staging = w at staged recordsThen ⊢
  generalize ht : (if (w.port p).session = .attached then w.endSession p else w) = t
  obtain ⟨books, recordsThen⟩ : t.Balanced (s.account.unstage p) ∧ t.RecordsOk := by
    rw [← ht]
    split
    · exact ⟨staged.endSession recordsThen p, tableRecords.endSession p recordsThen⟩
    · exact ⟨staged, recordsThen⟩
  have answers : heldBlocks (heldMsgs (t.port p).responses) = (s.port p).holds.2 := congrArg Prod.snd (books.ports p)
  have within : (s.port p).holds.2 ≤ s.account.answered := List.le_sum_of_mem (List.mem_map_of_mem (List.mem_finRange p))
  have freed := books.freeAnswered (ms := heldMsgs (t.port p).responses) (n := s.account.answered - (s.port p).holds.2) recordsThen
    (by rw [answers]; exact (Nat.sub_add_cancel within).symm)
  refine freed.writePort (fun n => ?_) ?_
  · dsimp only
    rw [restingTxn_staging]
    rfl
  · exact Nat.sub_add_cancel within

theorem execHostPortReset (h : s.PoolOk) (records : s.RecordsOk) : Yields (Machine.execHostPortReset p s) State.PoolOk := by
  unfold Machine.execHostPortReset
  split
  · exact yields_next (h.setPort rfl)
  · exact yields_next (h.resetPort records p).settle

/-- A port in RESET holds nothing of the pool (R160, R161). -/
theorem execHostPortResetRelease (h : s.PoolOk) (ports : s.PortsOk) : Yields (Machine.execHostPortResetRelease p s) State.PoolOk := by
  unfold Machine.execHostPortResetRelease
  split
  · exact yields_refused _
  rename_i low
  split
  · exact yields_next (h.setPort rfl)
  · rename_i running
    have reset : (s.port p).session = .reset := (ports.pin (by simpa using running) p).mpr (by simpa using low)
    obtain ⟨responses, -, -⟩ := (ports.ok p).inReset reset
    have unstaged := ports.unstaged (p := p) (.inl (by simp [State.portLive, reset]))
    exact yields_next (h.setPort (by simp only [HostPort.holds, HostPort.released, restingTxn_staging, unstaged, responses]))

theorem execDeviceReset : Yields (Machine.execDeviceReset s) State.PoolOk := by
  obtain ⟨-, -, -, -, -, reset, -⟩ := resetMeetsLaws
  refine yields_next (reset.same ⟨rfl, fun p => ?_, fun _ => rfl, fun _ => rfl⟩)
  have held : (s.ports.map HostPort.held)[p] = (s.port p).held := by simp [State.port]
  calc HostPort.holds (s.ports.map HostPort.held)[p] = (s.port p).held.holds := congrArg _ held
    _ = HostPort.holds {} := rfl
    _ = (State.reset.port p).holds := by rw [reset_port]

theorem execDeviceResetRelease (h : s.PoolOk) (ports : s.PortsOk) : Yields (Machine.execDeviceResetRelease s) State.PoolOk := by
  unfold Machine.execDeviceResetRelease
  split
  · rename_i low
    refine yields_next (h.same ⟨rfl, fun p => ?_, fun _ => rfl, fun _ => rfl⟩)
    have unstaged := ports.unstaged (p := p) (.inl (by simp [State.portLive, low]))
    have released : (({ s with resetLow := false, ports := s.ports.map HostPort.afterDeviceReset } : State).port p)
        = (s.port p).afterDeviceReset := by simp [State.port]
    simp only [released, HostPort.holds, HostPort.afterDeviceReset, restingTxn_staging, unstaged]
  · exact yields_refused _

/-! ## Line events -/

theorem receiveLevels (h : s.PoolOk) (levels : List Bool) : (s.receiveLevels l levels).PoolOk := by
  unfold State.receiveLevels
  dsimp only
  split
  · exact h
  refine List.foldlRecOn (motive := State.PoolOk) _ _ (h.same (.setLine ..)) fun u hu c _ => ?_
  rw [receiveChar_eq]
  refine (hu.same (.setLine ..)).same (.setLink_rtx ?_)
  split <;> rfl

theorem tick (h : s.PoolOk) : s.tick.PoolOk := by
  unfold State.tick
  split
  · exact h
  · refine h.same ⟨rfl, fun _ => rfl, fun _ => rfl, fun n => ?_⟩
    simp [State.unacked, State.link, Link.tick]

end State.PoolOk
end Sys2Proof.Machine
end

section
/-! SUPPORT. The law of the buffer pool (R87, R88, R91, R100, R101): the received frames, the expiries, and the step. -/

namespace Sys2Proof.Machine
namespace State.PoolOk
variable {s u : State} {p : Slot} {l : LinkId}

/-! ## Requests that settle -/

/-- A plain request whose action may make a frame takeable. -/
theorem settledRequest {row : Byte → Bool} {body : List Byte} {act : Action} (h : s.PoolOk) (ports : s.PortsOk) (records : s.RecordsOk)
    (send : row 0x30#8 = false) (none : carriesNone s act) (ha : ∀ hd st, (act hd st s).1.Balanced s.account) :
    Yields (settled (s.request p row body act)) State.PoolOk :=
  yields_settled (fun _ => settle) (h.plainRequest ports records send none ha)

/-! ## Received frames -/

/-- A held frame taken, by what its row does of the books (R146). -/
theorem takeHeld (h : s.PoolOk) (links : s.LinksOk) (records : s.RecordsOk) {act : Frame → Option (State → State)}
    (ha : ∀ f g, act f = some g → ∀ u : State, u.Balanced s.account → u.RecordsOk → u.LinksOk → (g u).Balanced s.account) :
    Yields (s.takeHeld l act) State.PoolOk := by
  unfold State.takeHeld
  split
  · rename_i f rest _
    split
    · rename_i g hg
      have books : (s.setLine l { s.line l with held := rest }).Balanced s.account := (poolOk_iff.mp h).setLine
      exact yields_next (ha f g hg _ books records links).settle.poolOk
    · exact yields_refused _
  · exact yields_refused _

/-- A held sequenced frame taken, by what the delivery of its content does of the books (R55, R61). -/
theorem takeHeldSequenced (h : s.PoolOk) (links : s.LinksOk) (records : s.RecordsOk)
    {deliver : ChanId → ChanId → Content → Option (State → State)}
    (hd : ∀ dst src c g, deliver dst src c = some g → ∀ u : State, u.Balanced s.account → u.RecordsOk → (g u).Balanced s.account) :
    Yields (s.takeHeldSequenced l deliver) State.PoolOk := by
  refine h.takeHeld links records fun f g hg u hu ru _ => ?_
  split at hg
  · obtain ⟨d, hd', rfl⟩ := Option.map_eq_some_iff.mp hg
    exact hu.takeSequenced ru (hd _ _ _ _ hd')
  · cases hg

section Frames
variable (h : s.PoolOk) (links : s.LinksOk) (records : s.RecordsOk)
include h links records

theorem execLinkOpen : Yields (Machine.execLinkOpen l s) State.PoolOk := by
  refine h.takeHeld links records fun f g hg u hu ru lu => ?_
  split at hg <;> cases hg
  exact hu.takeLinkOpen ru lu _ _

theorem execLinkAccept : Yields (Machine.execLinkAccept l s) State.PoolOk := by
  refine h.takeHeld links records fun f g hg u hu _ lu => ?_
  split at hg <;> cases hg
  exact hu.takeLinkAccept lu _ _ _

theorem execLinkClose : Yields (Machine.execLinkClose l s) State.PoolOk := by
  refine h.takeHeld links records fun f g hg u hu ru _ => ?_
  split at hg <;> cases hg
  exact hu.takeLinkClose ru

theorem execLinkClosed : Yields (Machine.execLinkClosed l s) State.PoolOk := by
  refine h.takeHeld links records fun f g hg u hu _ _ => ?_
  split at hg <;> cases hg
  exact hu.takeLinkClosed

theorem execStatus : Yields (Machine.execStatus l s) State.PoolOk := by
  have flags (k : Link) (poll answer : Bool) : (k.takeStatusFlags poll answer).rtx = k.rtx := by
    
    rw [Link.takeStatusFlags_eq]
    unfold Link.takeAnswerFlag
    split_ifs <;> rfl
  refine h.takeHeld links records fun f g hg u hu ru _ => ?_
  split at hg <;> cases hg
  exact hu.withNr ru fun v hv _ => hv.setLink (flags ..)

theorem execResend : Yields (Machine.execResend l s) State.PoolOk := by
  have pass (k : Link) : k.takeResend.rtx = k.rtx := by unfold Link.takeResend; split_ifs <;> rfl
  refine h.takeHeld links records fun f g hg u hu ru _ => ?_
  split at hg <;> cases hg
  exact hu.withNr ru fun v hv _ => hv.setLink (pass _)

theorem execData : Yields (Machine.execData l s) State.PoolOk := by
  refine h.takeHeldSequenced links records fun dst src c g hg u hu ru => ?_
  split at hg <;> cases hg
  exact hu.deliverData ru dst src _

theorem execChanOpen : Yields (Machine.execChanOpen l s) State.PoolOk := by
  refine h.takeHeldSequenced links records fun dst src c g hg u hu ru => ?_
  split at hg <;> cases hg
  exact hu.deliverOpen ru dst src _

theorem execChanAccept : Yields (Machine.execChanAccept l s) State.PoolOk := by
  refine h.takeHeldSequenced links records fun dst src c g hg u hu ru => ?_
  split at hg <;> cases hg
  exact hu.deliverAccept ru dst src _

theorem execChanRefuse : Yields (Machine.execChanRefuse l s) State.PoolOk := by
  refine h.takeHeldSequenced links records fun dst src c g hg u hu ru => ?_
  split at hg <;> cases hg
  exact hu.deliverRefuse ru dst src _

theorem execChanClose : Yields (Machine.execChanClose l s) State.PoolOk := by
  refine h.takeHeldSequenced links records fun dst src c g hg u hu ru => ?_
  split at hg <;> cases hg
  exact hu.deliverClose ru dst src _

theorem execChanClosed : Yields (Machine.execChanClosed l s) State.PoolOk := by
  refine h.takeHeldSequenced links records fun dst src c g hg u hu ru => ?_
  split at hg <;> cases hg
  exact hu.deliverClosed ru dst src

theorem execChanCredit : Yields (Machine.execChanCredit l s) State.PoolOk := by
  refine h.takeHeldSequenced links records fun dst src c g hg u hu _ => ?_
  split at hg <;> cases hg
  exact hu.deliverCredit dst src _

end Frames

/-! ## Line events and expiries -/

theorem execLineReadyDeasserted (h : s.PoolOk) (records : s.RecordsOk) : Yields (Machine.execLineReadyDeasserted l s) State.PoolOk := by
  have kept : (s.keepSample l false).Balanced s.account := (poolOk_iff.mp h).setLine
  unfold Machine.execLineReadyDeasserted
  dsimp only
  split
  · exact yields_next (kept.lineLost records l).settle.poolOk
  · exact yields_next kept.poolOk

theorem execTransmitComplete (h : s.PoolOk) : Yields (Machine.execTransmitComplete l s) State.PoolOk := by
  have freed : (s.freeTransmitter l).Balanced s.account := (poolOk_iff.mp h).setLine
  unfold Machine.execTransmitComplete
  split
  · split
    · exact yields_refused _
    · exact yields_next freed.count.settle.poolOk
  · exact yields_refused _

theorem execTruncationComplete (h : s.PoolOk) : Yields (Machine.execTruncationComplete l s) State.PoolOk := by
  have freed : (s.freeTransmitter l).Balanced s.account := (poolOk_iff.mp h).setLine
  unfold Machine.execTruncationComplete
  split
  · split
    · exact yields_next freed.settle.poolOk
    · exact yields_refused _
  · exact yields_refused _

theorem execTAckExpiry (h : s.PoolOk) : Yields (Machine.execTAckExpiry l s) State.PoolOk := by
  unfold Machine.execTAckExpiry
  dsimp only
  split
  · exact yields_next (State.PoolOk.settle (h.same (.setLink_rtx rfl)))
  · exact yields_next h

theorem execTRespExpiry (h : s.PoolOk) (records : s.RecordsOk) : Yields (Machine.execTRespExpiry l s) State.PoolOk := by
  unfold Machine.execTRespExpiry
  split
  · exact yields_next ((poolOk_iff.mp h).respExpired records l).settle.poolOk
  · exact yields_next h

theorem execTIdleExpiry (h : s.PoolOk) : Yields (Machine.execTIdleExpiry l s) State.PoolOk := by
  unfold Machine.execTIdleExpiry
  dsimp only
  split
  · exact yields_next (State.PoolOk.settle (h.same (.setLink_rtx rfl)))
  · exact yields_next h

/-! ## The rows of the table -/

/-- Every command keeps the law of the pool, where the ports, the links and the records meet theirs. -/
theorem exec (h : s.PoolOk) (ports : s.PortsOk) (links : s.LinksOk) (records : s.RecordsOk) (c : Instr) :
    Yields (Machine.exec c s) State.PoolOk := by
  have books := poolOk_iff.mp h
  cases c with
  | attach p body => exact h.execAttach ports records body
  | detach p body => exact h.settledRequest ports records rfl (fun _ _ => rfl) fun _ _ => books.endSession records p
  | linkStart p body => exact h.settledRequest ports records rfl (doLinkStart_none s p body) (books.doLinkStart p body)
  | linkStop p body => exact h.settledRequest ports records rfl (doLinkStop_none s p body) (books.doLinkStop records p body)
  | linkClaim p body =>
    exact (h.plainRequest ports records rfl (doLinkClaim_none s p body) (books.doLinkClaim p body) :
      Yields (Machine.execLinkClaim p body s) _)
  | linkQuery p body => exact h.execLinkQuery ports records body
  | chListen p body =>
    exact (h.plainRequest ports records rfl (doChListen_none s p body) (books.doChListen records p body) :
      Yields (Machine.execChListen p body s) _)
  | chOpen p body => exact h.settledRequest ports records rfl (doChOpen_none s p body) (books.doChOpen records p body)
  | chClose p body => exact h.settledRequest ports records rfl (doChClose_none s p body) (books.doChClose p body)
  | chRelease p body => exact h.settledRequest ports records rfl (doChRelease_none s p body) (books.doChRelease records p body)
  | chQuery p body => exact h.execChQuery ports records body
  | send p body => exact h.execSend ports records body
  | recv p body => exact h.execRecv ports records body
  | poolQuery p body =>
    exact (h.query ports records rfl (fun _ _ => rfl) fun _ _ => rfl : Yields (Machine.execPoolQuery p body s) _)
  | unknownCommand p body =>
    exact (h.query ports records rfl (fun _ _ => rfl) fun _ _ => rfl : Yields (Machine.execUnknownCommand p body s) _)
  | transactionCode p code => exact h.execTransactionCode code
  | statusTransaction p n => exact h.execStatusTransaction ports n
  | writeRequestHeader p tag code len => exact h.execWriteRequestHeader tag code len
  | readResponse p n => exact h.execReadResponse ports records n
  | readEvent p n => exact h.execReadEvent ports n
  | hostPortReset p => exact h.execHostPortReset records
  | hostPortResetRelease p => exact h.execHostPortResetRelease ports
  | deviceReset => exact execDeviceReset
  | deviceResetRelease => exact h.execDeviceResetRelease ports
  | lineReadyDeasserted l => exact h.execLineReadyDeasserted records
  | frameBodyStart l b => exact yields_next (h.receiveLevels _)
  | frameEnd l => exact yields_next (h.receiveLevels _)
  | transmitComplete l => exact h.execTransmitComplete
  | truncationComplete l => exact h.execTruncationComplete
  | linkOpen l => exact h.execLinkOpen links records
  | linkAccept l => exact h.execLinkAccept links records
  | linkClose l => exact h.execLinkClose links records
  | linkClosed l => exact h.execLinkClosed links records
  | status l => exact h.execStatus links records
  | resend l => exact h.execResend links records
  | data l => exact h.execData links records
  | chanOpen l => exact h.execChanOpen links records
  | chanAccept l => exact h.execChanAccept links records
  | chanRefuse l => exact h.execChanRefuse links records
  | chanClose l => exact h.execChanClose links records
  | chanClosed l => exact h.execChanClosed links records
  | chanCredit l => exact h.execChanCredit links records
  | tAckExpiry l => exact h.execTAckExpiry
  | tRespExpiry l => exact h.execTRespExpiry records
  | tIdleExpiry l => exact h.execTIdleExpiry
  | chipSelectFalls p => exact h.execChipSelectFalls ports
  | ignoredTransactionEnd p n => exact h.execIgnoredTransactionEnd ports n
  | huntDelimiter l => exact yields_next (h.receiveLevels _)
  | bodyCharacter l levels => exact yields_next (h.receiveLevels _)
  | lineReadyAsserted l => exact yields_next books.setLine.poolOk

end State.PoolOk

/-- Settles O9: every command keeps the books of the pool, and a tick touches none of their entries. -/
theorem stepKeepsPool : Obligations.StepKeepsPool := by
  intro s t ports links records h
  unfold step
  split
  · rename_i c rest _
    exact State.PoolOk.exec (s := { s with pending := rest }) (h.same ⟨rfl, fun _ => rfl, fun _ => rfl, fun _ => rfl⟩)
      ⟨ports.ok, ports.held, ports.pin⟩ links records c t
  · exact yields_next h.tick t

end Sys2Proof.Machine
end

section
/-! SUPPORT. What serving the credit-owed list does at its head (R100, R101), how DATA is taken (R97 to R99), and the staging claim of a
request header (R92, R108). -/

namespace Sys2Proof.Machine

/-! ## The credit-owed list -/

/-- The state after a grant of `g` blocks to record `i`, with `list` left on the credit-owed list (R22, R100). -/
def State.grantedWith (s : State) (i : ChanId) (g : Nat) (list : List ChanId) : State :=
  let c := s.chan i
  let k := s.link c.link
  ((s.setChan i { c with rxGranted := c.rxGranted + BitVec.ofNat 8 g, owed := { c.owed with credit := true } }).setPool
    { s.pool with reserved := s.pool.reserved + g, creditOwed := list }).setLink c.link
      { k with ready := if c.owed = {} then k.ready ++ [i] else k.ready }

theorem raiseGrant_grantedWith {s : State} {i : ChanId} {g : Nat} (h : g ≠ 0) (hc : (s.chan i).owed.close = none) (list : List ChanId) :
    (s.raiseGrant i g).setCreditOwed list = s.grantedWith i g list := by
  rw [raiseGrant_eq s i h, if_neg (by simp [hc])]
  rfl

section Head
variable {s : State} {i : ChanId} {rest : List ChanId}

/-- Nothing is served of an empty list, or while no block is free-unreserved. -/
theorem serve_idle (h : s.pool.creditOwed = [] ∨ s.pool.unreserved = 0) : s.serve = s := by
  unfold State.serve
  cases hq : s.pool.creditOwed with
  | nil => rw [State.serveList, ← hq]; rfl
  | cons i rest =>
    have none : s.pool.unreserved = 0 := h.resolve_left (by simp [hq])
    rw [State.serveList, if_pos none, ← hq]; rfl

/-- A want that is met: the record leaves the list, and the next is served. -/
theorem serve_met (hq : s.pool.creditOwed = i :: rest) (left : 0 < s.pool.unreserved) (met : (s.chan i).openWant ≤ s.pool.unreserved) :
    s.serve = ((s.raiseGrant i (s.chan i).openWant).setCreditOwed rest).serve := by
  have served : s.serve = State.serveList rest (s.raiseGrant i (s.chan i).openWant) := by
    rw [State.serve, hq, State.serveList, if_neg (Nat.ne_of_gt left)]
    dsimp only
    rw [Nat.min_eq_left met]
    exact if_neg (Nat.lt_irrefl _)
  rw [served]
  exact (serveList_setCreditOwed rest rest _).symm

/-- A grant that falls short takes all that is left, and the record stays at the head. -/
theorem serve_short (hq : s.pool.creditOwed = i :: rest) (left : 0 < s.pool.unreserved) (short : s.pool.unreserved < (s.chan i).openWant) :
    s.serve = (s.raiseGrant i s.pool.unreserved).setCreditOwed (i :: rest) := by
  rw [State.serve, hq, State.serveList, if_neg (Nat.ne_of_gt left)]
  dsimp only
  rw [Nat.min_eq_right (Nat.le_of_lt short)]
  exact if_pos short

end Head

/-- Settles O59: one turn of the serving, by the want of the record at the head. -/
theorem creditOwedListIsServedInTurn : Obligations.CreditOwedListIsServedInTurn := by
  intro s
  refine ⟨serve_idle, (serve_served s).done, fun i rest hq left => ⟨fun met => ?_, fun some met close => ?_, fun short close => ?_⟩⟩
  · have want : (s.chan i).openWant = 0 := met
    rw [serve_met hq left (by omega), want]
    rfl
  · have want : (s.chan i).openWant ≠ 0 := Nat.ne_of_gt some
    rw [serve_met hq left met, raiseGrant_grantedWith want close]
    rfl
  · exact (serve_short hq left short).trans (raiseGrant_grantedWith (Nat.ne_of_gt left) close (i :: rest))

/-! ## DATA -/

section Data
variable {s : State} {l : LinkId} {nr : Seq} {dst src : ChanId} {payload : List Byte}

theorem exec_data (h : s.Accepts l nr dst src (.data payload)) :
    exec (.data l) s = .next ((s.afterAccept l nr).deliverData l dst src payload).settle :=
  takeHeldSequenced_run (g := fun t => t.deliverData l dst src payload) h rfl

theorem deliverData_stray (h : ¬ (s.Matches l dst src ∧ ((s.chan dst).state = .opened ∨ (s.chan dst).state = .closing))) :
    s.deliverData l dst src payload = s.strayed l := by
  rw [← fits_iff] at h
  exact if_neg h

section Matching
variable (fits : s.Matches l dst src) (live : (s.chan dst).state = .opened ∨ (s.chan dst).state = .closing)
include fits live

theorem deliverData_place (h : blocksOf payload.length ≤ (s.chan dst).outstanding) :
    s.deliverData l dst src payload = s.place dst payload :=
  (if_pos ⟨fits_iff.mpr fits, live⟩).trans (if_pos h)

theorem deliverData_violate (h : (s.chan dst).outstanding < blocksOf payload.length) :
    s.deliverData l dst src payload = s.violate l dst :=
  (if_pos ⟨fits_iff.mpr fits, live⟩).trans (if_neg (Nat.not_le.mpr h))

end Matching
end Data

/-- A record that is aborted stays bound to its link (R122). -/
theorem abortChan_chan_link (s : State) (i : ChanId) : ((s.abortChan i).chan i).link = (s.chan i).link := by
  obtain ⟨w, served, becomes⟩ := abortChan_becomes s i
  have unserved : w.serve.chan i = w.chan i := (serve_served w).others i (.inr (by rw [becomes.self]; exact nofun))
  rw [served, unserved, becomes.self]
  rfl

/-- Settles O46: a record that does not match, or is in another state, is none of DATA's two rows. -/
theorem strayDataIsDiscarded : Obligations.StrayDataIsDiscarded := by
  intro s l nr dst src payload h t stray
  rw [exec_data h, deliverData_stray stray]

/-- Settles O45, by the payload's blocks against the outstanding credit, and by the receive queue that the message joins. -/
theorem dataIsPlacedWithinCredit : Obligations.DataIsPlacedWithinCredit := by
  intro s l nr dst src payload h t c n fits live placed
  have link : c.link = l := fits.2.1
  refine ⟨fun within empty => ?_, fun within waiting => ?_, fun beyond => ?_⟩
  · rw [exec_data h, deliverData_place fits live within]
    have first : t.place dst payload = placed.announce dst payload.length := if_pos (List.isEmpty_iff.mpr empty)
    rw [first]
    simp only [State.announce, State.chanEvent, placed, chan_setChan, link]
  · rw [exec_data h, deliverData_place fits live within]
    have behind : t.place dst payload = placed := if_neg (by simpa using waiting)
    rw [behind]
  · rw [exec_data h, deliverData_violate fits live beyond]
    have counted : (t.count l Counters.bumpViolation).chan dst = c := rfl
    simp only [State.violate, State.chanEvent, abortChan_chan_link, counted, link]
    rfl

/-! ## The header of a request -/

section Header
variable {s : State} {p : Slot} {len : Nat}

theorem stagingClaim_none (h : len < 4 ∨ 1027 < len) : s.stagingClaim p len = (s, .none) := if_pos h

theorem stagingClaim_quota (h : ¬ (len < 4 ∨ 1027 < len)) (quota : 192 < s.pool.usage[p] + blocksOf (len - 3)) :
    s.stagingClaim p len = (s, .refused .quota) := by
  have refusal : s.pool.stagingRefusal p (blocksOf (len - 3)) = some .quota := if_pos quota
  simp only [State.stagingClaim, if_neg h, refusal]

theorem stagingClaim_noBuffer (h : ¬ (len < 4 ∨ 1027 < len)) (quota : s.pool.usage[p] + blocksOf (len - 3) ≤ 192)
    (full : s.pool.unreserved < blocksOf (len - 3)) : s.stagingClaim p len = (s, .refused .noBuffer) := by
  have refusal : s.pool.stagingRefusal p (blocksOf (len - 3)) = some .noBuffer := (if_neg (Nat.not_lt.mpr quota)).trans (if_pos full)
  simp only [State.stagingClaim, if_neg h, refusal]

theorem stagingClaim_granted (h : ¬ (len < 4 ∨ 1027 < len)) (quota : s.pool.usage[p] + blocksOf (len - 3) ≤ 192)
    (room : blocksOf (len - 3) ≤ s.pool.unreserved) :
    s.stagingClaim p len = (s.setPool (s.pool.stage p (blocksOf (len - 3))), .granted (len - 3)) := by
  have refusal : s.pool.stagingRefusal p (blocksOf (len - 3)) = none :=
    (if_neg (Nat.not_lt.mpr quota)).trans (if_neg (Nat.not_lt.mpr room))
  simp only [State.stagingClaim, if_neg h, refusal]

variable {tag code high low : Byte} (live : s.portLive p = true) (cs : (s.port p).csLow = true) (txn : (s.port p).txn = .writeHeader)
include live cs txn

theorem exec_writeRequestHeader_dropped (full : 8 ≤ (s.port p).responses.length) : exec (.writeRequestHeader p tag code (high, low)) s
    = .next (s.setPort p { s.port p with drop := true, txn := .ignore, hso := (s.port p).hso ++ zeros 4 }) := by
  change execWriteRequestHeader p tag code (high, low) s = _
  unfold execWriteRequestHeader
  refine midTransaction_run live cs (by simp [txn]) ?_
  rw [txn]
  exact if_pos full

/-- A header that is not dropped, by the staging claim it makes. -/
theorem exec_writeRequestHeader_taken (room : (s.port p).responses.length < 8) {claim : State × Staging}
    (hc : (if code = 0x30#8 ∧ (s.port p).session = .attached then s.stagingClaim p (high.toNat * 256 + low.toNat) else (s, .none)) = claim) :
    exec (.writeRequestHeader p tag code (high, low)) s = .next (claim.1.setPort p { s.port p with
      txn := .writeBody { tag, code, len := BitVec.ofNat 16 (high.toNat * 256 + low.toNat) } claim.2, hso := (s.port p).hso ++ zeros 4 }) := by
  have whole : (BitVec.ofNat 16 (high.toNat * 256 + low.toNat)).toNat = high.toNat * 256 + low.toNat := by
    have h := high.isLt
    have l := low.isLt
    simp only [BitVec.toNat_ofNat]
    omega
  change execWriteRequestHeader p tag code (high, low) s = _
  unfold execWriteRequestHeader
  refine midTransaction_run live cs (by simp [txn]) ?_
  rw [txn]
  refine (if_neg (Nat.not_le.mpr room)).trans ?_
  dsimp only [fromBe16]
  rw [whole, hc]

end Header

/-- Settles O22, by the row of R153 and then by the outcome of the claim (R92, R108). -/
theorem headerDropsOrStages : Obligations.HeaderDropsOrStages := by
  intro s p tag code high low live cs txn x len blocks run body claims
  have inRange (h : claims) : ¬ (len < 4 ∨ 1027 < len) := by obtain ⟨-, -, h4, h1027⟩ := h; omega
  have claiming (h : claims) : code = 0x30#8 ∧ (s.port p).session = .attached := ⟨h.1, h.2.1⟩
  refine ⟨exec_writeRequestHeader_dropped live cs txn, fun room no => ?_, fun room yes quota => ?_, fun room yes quota full => ?_,
    fun room yes quota free => ?_⟩
  · refine exec_writeRequestHeader_taken live cs txn room (claim := (s, .none)) ?_
    split
    · rename_i h
      refine stagingClaim_none ?_
      by_contra range
      exact no ⟨h.1, h.2, by omega, by omega⟩
    · rfl
  · exact exec_writeRequestHeader_taken live cs txn room ((if_pos (claiming yes)).trans (stagingClaim_quota (inRange yes) quota))
  · exact exec_writeRequestHeader_taken live cs txn room ((if_pos (claiming yes)).trans (stagingClaim_noBuffer (inRange yes) quota full))
  · exact exec_writeRequestHeader_taken live cs txn room ((if_pos (claiming yes)).trans (stagingClaim_granted (inRange yes) quota free))

end Sys2Proof.Machine
end

section
/-! SUPPORT. The message path: SEND queues the staged message (R106, R109), RECV moves the head message into its response and computes
a grant (R100, R117). -/

namespace Sys2Proof.Machine

/-- A record named by its owner passes the checks that SEND and RECV begin with. -/
theorem owned_of_owns {s : State} {p : Slot} {i : ChanId} {b : Byte} (hb : b.toNat = i.val) (own : s.Owns p i) :
    s.owned p b.toNat = .ok i := by
  rw [State.owned, hb, chanOf_val]
  exact if_neg (not_or.mpr ⟨own.1, not_not.mpr own.2⟩)

/-! ## SEND -/

section Send
variable {s : State} {p : Slot} {h : ReqHeader} {n : Nat} {b tag flags : Byte} {payload : List Byte} {i : ChanId}
  (hf : flags = 0#8 ∨ flags = 1#8)
include hf

/-- The message that a SEND body gives, its notify flag read from the flags byte (R106). -/
theorem sendMessage_eq : sendMessage p i (b :: tag :: flags :: payload)
    = { slot := p, channel := i, tag, notify := decide (flags = 1#8), payload } := by
  rcases hf with rfl | rfl <;> rfl

/-- The checks of a SEND pass one after the other, the staging claim last (R109). -/
theorem sendCheck_passes (hb : b.toNat = i.val) (own : s.Owns p i) (len : payloadLength h = payload.length)
    (nonempty : 1 ≤ payload.length) (short : payload.length ≤ 1024) (opened : (s.chan i).state = .opened)
    (fits : blocksOf payload.length ≤ (s.chan i).peerWindow) (room : (s.chan i).sendQ.length < 16) :
    s.sendCheck p h (.granted n) (b :: tag :: flags :: payload) = .ok i := by
  have id : bodyAt (b :: tag :: flags :: payload) 0 = b.toNat := rfl
  have flag : bodyAt (b :: tag :: flags :: payload) 2 ≤ 1 := by
    change flags.toNat ≤ 1
    rcases hf with rfl | rfl <;> decide
  have max : Config.maxMessage = 1024 := rfl
  have small := i.isLt
  rw [State.sendCheck, if_neg (by omega), id, owned_of_owns hb own, len]
  exact (if_neg (not_not.mpr opened)).trans ((if_neg (Nat.not_lt.mpr fits)).trans
    ((if_neg (Nat.not_le.mpr room)).trans (if_neg (not_not.mpr rfl))))

end Send

/-- Settles O38. -/
theorem sendQueuesItsMessage : Obligations.SendQueuesItsMessage := by
  intro s p h n b tag flags payload i w hb hf nonempty short own opened fits room
  have len : payloadLength h = payload.length := congrArg (· - 3) w.whole
  have passes := sendCheck_passes (n := n) (tag := tag) hf hb own len nonempty short opened fits room
  have act : State.doSend p (b :: tag :: flags :: payload) h (.granted n) s
      = (s.queueMessage i { slot := p, channel := i, tag, notify := decide (flags = 1#8), payload },
        okReply [byteOf ((s.chan i).sendQ.length + 1)]) := by
    rw [State.doSend, passes, ← sendMessage_eq hf]
  exact congrArg settled (request_answers (row := (· == 0x30#8)) w rfl rfl (decide_eq_true (Nat.le_add_left 3 payload.length)) act)

/-! ## The grant of a RECV (R100) -/

/-- The credit-owed list after a grant of `g` to record `i` out of `want` (R100). -/
def Pool.listAfter (q : Pool) (i : ChanId) (g want : Nat) : List ChanId :=
  if g < want ∧ i ∉ q.creditOwed then q.creditOwed ++ [i] else q.creditOwed

theorem raiseGrant_creditOwed (s : State) (i : ChanId) (g : Nat) : (s.raiseGrant i g).pool.creditOwed = s.pool.creditOwed := by
  unfold State.raiseGrant
  split
  · rfl
  · rw [(oweCredit_frame _ i).2.2.1]; rfl

/-- A grant to a record that has just been replaced (R100). -/
theorem grantedWith_setChan (s : State) (i : ChanId) (c : Chan) (g : Nat) (list : List ChanId) :
    (s.setChan i c).grantedWith i g list
      = ((s.setChan i { c with rxGranted := c.rxGranted + BitVec.ofNat 8 g, owed := { c.owed with credit := true } }).setPool
          { s.pool with reserved := s.pool.reserved + g, creditOwed := list }).setLink c.link
          { s.link c.link with ready := if c.owed = {} then (s.link c.link).ready ++ [i] else (s.link c.link).ready } := by
  simp only [State.grantedWith, chan_setChan, setChan_setChan, link_setChan, pool_setChan]

section Grant
variable {s : State} {i : ChanId}

theorem grant_of_not_opened (h : (s.chan i).state ≠ .opened) : s.grant i = s := if_pos h

theorem grant_of_opened (h : (s.chan i).state = .opened) :
    let g := min (s.chan i).want s.pool.unreserved
    s.grant i = (s.raiseGrant i g).setCreditOwed (s.pool.listAfter i g (s.chan i).want) := by
  intro g
  have list := raiseGrant_creditOwed s i g
  have branches : s.grant i = if g < (s.chan i).want && !(s.raiseGrant i g).pool.creditOwed.contains i
      then (s.raiseGrant i g).setCreditOwed ((s.raiseGrant i g).pool.creditOwed ++ [i]) else s.raiseGrant i g := if_neg (not_not.mpr h)
  rw [branches, list, Pool.listAfter]
  by_cases short : g < (s.chan i).want ∧ i ∉ s.pool.creditOwed
  · rw [if_pos short, if_pos (by simpa using short)]
  · rw [if_neg short, if_neg (by simpa using short), ← list]; rfl

end Grant

/-! ## RECV -/

/-- The record without the head message of its receive queue (R117). -/
def Chan.popped (c : Chan) (m : RxMsg) (rest : List RxMsg) : Chan := { c with recvQ := rest, rxHeld := c.rxHeld - m.blocks }

section Recv
variable {s : State} {p : Slot} {h : ReqHeader} {st : Staging} {b : Byte} {i : ChanId} {m : RxMsg} {rest : List RxMsg}

theorem popReceived_eq (hq : (s.chan i).recvQ = m :: rest) : s.popReceived i m = s.setChan i ((s.chan i).popped m rest) := by
  rw [State.popReceived, hq]; rfl

/-- A RECV that is taken: the head message leaves the queue, and a grant is computed (R117). -/
theorem exec_recv (w : s.Requests p 0x31#8 [b] h st) (hb : b.toNat = i.val) (own : s.Owns p i) (hq : (s.chan i).recvQ = m :: rest)
    (live : (s.chan i).state ≠ .aborting) :
    exec (.recv p [b]) s = .next ((((s.setChan i ((s.chan i).popped m rest)).grant i).reply p h
      { result := .ok, body := recvBody i rest.length m, msg := some m } 1).settle) := by
  have id : bodyAt [b] 0 = b.toNat := rfl
  have act : State.doRecv p [b] h st s = ((s.setChan i ((s.chan i).popped m rest)).grant i,
      { result := .ok, body := recvBody i rest.length m, msg := some m }) := by
    rw [State.doRecv, id, owned_of_owns hb own]
    dsimp only
    rw [if_neg live, hq, ← popReceived_eq hq]
  exact congrArg settled (request_answers (row := (· == 0x31#8)) w rfl rfl rfl act)

end Recv

/-- Settles O39, by the state of the record, and for an OPEN record by the grant. -/
theorem recvMovesTheHeadMessage : Obligations.RecvMovesTheHeadMessage := by
  intro s p h st b i m rest w hb own hq c k held moved want g granted list ok
  have self : (s.setChan i moved).chan i = moved := chan_setChan s i moved
  have run (live : c.state ≠ .aborting) : ok ((s.setChan i moved).grant i) := exec_recv w hb own hq live
  have given (opened : c.state = .opened) : (s.setChan i moved).grant i = ((s.setChan i moved).raiseGrant i g).setCreditOwed list := by
    rw [grant_of_opened (by rw [self]; exact opened), self]; rfl
  refine ⟨fun ends => ?_, fun opened zero => ?_, fun opened above close => ?_⟩
  · have live : c.state ≠ .aborting ∧ c.state ≠ .opened := by rcases ends with e | e <;> simp [e]
    have same : (s.setChan i moved).grant i = s.setChan i moved := grant_of_not_opened (by rw [self]; exact live.2)
    rw [← same]
    exact run live.1
  · have listed : (s.setChan i moved).grant i = (s.setChan i moved).setPool { s.pool with creditOwed := list } := by
      rw [given opened, zero]; rfl
    rw [← listed]
    exact run (by simp [opened])
  · have raised := raiseGrant_grantedWith (Nat.ne_of_gt above) (by rw [self]; exact close) list
    rw [grantedWith_setChan, ← given opened] at raised
    have taken := run (by simp [opened])
    rwa [raised] at taken

end Sys2Proof.Machine
end

section
/-! SUPPORT. Ending and aborting a record (R121, R122): what the record gives up, in one change of the state, before the credit-owed list
is served. -/

namespace Sys2Proof.Machine

/-! ## The control-ready list, by what a record comes to owe (R24) -/

theorem readyAfter_nothing (i : ChanId) (old : Owed) (q : List ChanId) :
    readyAfter i old {} q = if old = {} then q else q.filter (· != i) := by
  rw [readyAfter_eq]
  by_cases h : old = {} <;> simp [h]

theorem readyAfter_something (i : ChanId) (old : Owed) {new : Owed} (h : new ≠ {}) (q : List ChanId) :
    readyAfter i old new q = if old = {} then q ++ [i] else q := by
  rw [readyAfter_eq]
  by_cases ho : old = {} <;> simp [ho, h]

/-- An aborted record owes CLOSE unless its close has been sent (R122): it keeps its place on the control-ready list, joins the tail or
leaves it. -/
theorem readyAfter_aborted (i : ChanId) (c : Chan) (q : List ChanId) : readyAfter i c.owed c.aborted.owed q =
    if c.closeSent then (if c.owed = {} then q else q.filter (· != i)) else if c.owed = {} then q ++ [i] else q := by
  cases sent : c.closeSent with
  | true =>
    have nothing : c.aborted.owed = {} := by simp [Chan.aborted, sent]
    rw [nothing, readyAfter_nothing, if_pos rfl]
  | false =>
    have something : c.aborted.owed ≠ {} := by simp [Chan.aborted, sent]
    rw [readyAfter_something _ _ something, if_neg Bool.false_ne_true]

/-! ## What a record gives up -/

/-- The state when record `i` has become `c` and has given up its send queue, the received messages `rs` and its credit. -/
def State.shed (s : State) (i : ChanId) (c : Chan) (rs : List RxMsg) : State :=
  let k := s.link (s.chan i).link
  let freed := (s.freeTxMsgs (s.chan i).sendQ).freeRxMsgs rs
  ((freed.setPool (freed.pool.unreserve i (s.chan i).outstanding)).setChan i c).setLink (s.chan i).link
    { k with rtx := k.rtx.map (Entry.clearNotify i), ready := readyAfter i (s.chan i).owed c.owed k.ready }

theorem shed_chan_self (s : State) (i : ChanId) (c : Chan) (rs : List RxMsg) : (s.shed i c rs).chan i = c := chan_setChan ..

theorem shed_sheds (s : State) (i : ChanId) (c : Chan) (rs : List RxMsg) : s.Sheds (s.shed i c rs) i (s.chan i).sendQ (heldBlocks rs)
    (readyAfter i (s.chan i).owed c.owed (s.link (s.chan i).link).ready) := by
  obtain ⟨free, usage, rx, reserved, owed⟩ := freeTxMsgs_pool s (s.chan i).sendQ
  have pool : (s.shed i c rs).pool = ((s.freeTxMsgs (s.chan i).sendQ).freeRxMsgs rs).pool.unreserve i (s.chan i).outstanding := rfl
  rw [freeRxMsgs_eq] at pool
  constructor
  case others => exact fun j hj => chan_setChan_ne _ _ hj
  case links =>
    intro l
    by_cases own : l = (s.chan i).link
    · subst own; simp [State.shed]
    · simp [State.shed, own]
  case free => rw [pool]; exact congrArg (· + heldBlocks rs) free
  case rx => rw [pool]; exact congrArg (· - heldBlocks rs) rx
  case usage => rw [pool]; exact usage
  case reserved => rw [pool]; exact congrArg (· - (s.chan i).outstanding) reserved
  case owed => rw [pool]; exact congrArg (List.filter (· != i)) owed
  case lines => rfl
  case model => exact ⟨rfl, rfl, rfl⟩

/-- A post leaves what has been given up. -/
theorem State.Sheds.postTo {s w : State} {i : ChanId} {tx : List TxMsg} {rx : Nat} {ready : List ChanId} (h : s.Sheds w i tx rx ready)
    (p : Slot) (e : Event) : s.Sheds (w.postTo p e) i tx rx ready :=
  { others := h.others, links := h.links, free := h.free, rx := h.rx, usage := h.usage, reserved := h.reserved, owed := h.owed
    lines := h.lines, model := h.model }

/-- A record ended (R121): it sheds everything but its receive queue, and CH-ENDED is posted. -/
theorem endChan_eq (s : State) (i : ChanId) (r : Reason) : s.endChan i r =
    ((s.shed i ((s.chan i).endedWith r) []).postTo (s.chan i).owner
      { kind := .chEnded, link := (s.chan i).link, channel := i, reason := some r, arg := (s.chan i).sendQ.length }).serve := by
  simp [State.endChan, State.shed, State.releaseCredit, State.clearNotify, State.chanEvent, State.freeRxMsgs, setOwed_eq,
    setLink_setPool, setPool_setChan, setLink_setChan, Chan.endedWith, Chan.outstanding]

/-- A record aborted (R122): it sheds both queues. -/
theorem abortChan_eq (s : State) (i : ChanId) : s.abortChan i = (s.shed i (s.chan i).aborted (s.chan i).recvQ).serve := by
  simp [State.abortChan, State.shed, State.releaseCredit, State.clearNotify, setOwed_eq, setLink_setPool, setPool_setChan,
    setLink_setChan, Chan.aborted, Chan.abortOwed]

/-- Serving the credit-owed list grants nothing to a record that is not OPEN (R100). -/
theorem serve_chan_of_not_opened {w : State} {i : ChanId} {c : Chan} (h : w.chan i = c) (hc : c.state ≠ .opened) :
    w.serve.chan i = c :=
  ((serve_served w).others i (.inr (by rwa [h]))).trans h

/-- Settles O57: ending and aborting shed what the record holds, and the serving that follows leaves the record. -/
theorem endAndAbortGiveUpTheRecord : Obligations.EndAndAbortGiveUpTheRecord := by
  intro s i r _ c k without
  have ended := shed_chan_self s i (c.endedWith r) []
  have aborted := shed_chan_self s i c.aborted c.recvQ
  refine ⟨?_, ?_, ⟨_, endChan_eq s i r, ended, ?_, fun p => ?_⟩, ⟨_, abortChan_eq s i, aborted, ?_, rfl⟩⟩
  · rw [endChan_eq]
    exact serve_chan_of_not_opened ended nofun
  · rw [abortChan_eq]
    exact serve_chan_of_not_opened aborted nofun
  · have sheds := (shed_sheds s i (c.endedWith r) []).postTo c.owner
      { kind := .chEnded, link := c.link, channel := i, reason := some r, arg := c.sendQ.length }
    rwa [show (c.endedWith r).owed = {} from rfl, readyAfter_nothing] at sheds
  · rw [postTo_port]
    split
    · next own => rw [own]; rfl
    · rfl
  · have sheds := shed_sheds s i c.aborted c.recvQ
    rwa [readyAfter_aborted] at sheds

end Sys2Proof.Machine
end

section
/-! SUPPORT. The end of a channel by its owner and by the peer: CH-CLOSE (R123), CH-RELEASE (R127), CHAN-CLOSE and CHAN-CLOSED at a matching
record (R126, R128 to R131). -/

namespace Sys2Proof.Machine

/-! ## CH-CLOSE -/

section Close
variable {s : State} {p : Slot} {h : ReqHeader} {st : Staging} {b : Byte} {i : ChanId}

/-- A CH-CLOSE that is taken (R123). -/
theorem exec_chClose (w : s.Requests p 0x22#8 [b] h st) (hb : b.toNat = i.val) (own : s.Owns p i) (opened : (s.chan i).state = .opened) :
    exec (.chClose p [b]) s =
      .next (((s.closeRecord i).reply p h { result := .ok, body := [byteOf (s.chan i).sendQ.length] } 1).settle) := by
  have id : bodyAt [b] 0 = b.toNat := rfl
  have act : State.doChClose p [b] h st s = (s.closeRecord i, okReply [byteOf (s.chan i).sendQ.length]) := by
    rw [State.doChClose, id, owned_of_owns hb own]
    exact if_neg (not_not.mpr opened)
  exact congrArg settled (request_answers (row := (· == 0x22#8)) w rfl rfl rfl act)

/-- With messages in its send queue the record goes on owing what it owed (R123). -/
theorem closeRecord_waiting (waiting : (s.chan i).sendQ ≠ []) : s.closeRecord i =
    (s.setPool { s.pool with creditOwed := s.pool.creditOwed.filter (· != i) }).setChan i
      { s.chan i with state := .closing, closeSent := false } :=
  if_neg (by simpa using waiting)

/-- With an empty send queue CLOSE is owed in place of any CREDIT (R123, R24). -/
theorem closeRecord_drained (empty : (s.chan i).sendQ = []) : s.closeRecord i =
    ((s.setPool { s.pool with creditOwed := s.pool.creditOwed.filter (· != i) }).setChan i
      { s.chan i with state := .closing, closeSent := false, owed := (s.chan i).owed.drained }).setLink (s.chan i).link
      { s.link (s.chan i).link with
        ready := if (s.chan i).owed = {} then (s.link (s.chan i).link).ready ++ [i] else (s.link (s.chan i).link).ready } := by
  have owing : (s.chan i).owed.drained ≠ {} := by simp [Owed.drained]
  have owes : s.closeRecord i = ((s.setChan i { s.chan i with state := .closing, closeSent := false }).setCreditOwed
      (s.pool.creditOwed.filter (· != i))).setOwed i (s.chan i).owed.drained := if_pos (List.isEmpty_iff.mpr empty)
  rw [owes, setOwed_eq]
  simp [State.setCreditOwed, setPool_setChan, readyAfter_something _ _ owing]

end Close

/-- Settles O36. -/
theorem chCloseBeginsTheDrain : Obligations.ChCloseBeginsTheDrain := by
  intro s p h st b i w hb own opened c k off ok
  have run {t : State} (e : s.closeRecord i = t) : ok t := by rw [← e]; exact exec_chClose w hb own opened
  exact ⟨fun waiting => run (closeRecord_waiting waiting), fun empty => run (closeRecord_drained empty)⟩

/-! ## CH-RELEASE -/

section Release
variable {s : State} {p : Slot} {h : ReqHeader} {st : Staging} {b : Byte} {i : ChanId}

/-- A CH-RELEASE that is taken (R127). -/
theorem exec_chRelease (w : s.Requests p 0x23#8 [b] h st) (hb : b.toNat = i.val) (own : s.Owns p i)
    (live : (s.chan i).state ≠ .aborting) : exec (.chRelease p [b]) s = .next (((s.giveUp i).reply p h
      { result := .ok, body := [byteOf (s.chan i).sendQ.length, byteOf (s.chan i).recvQ.length] } 1).settle) := by
  have id : bodyAt [b] 0 = b.toNat := rfl
  have act : State.doChRelease p [b] h st s
      = (s.giveUp i, okReply [byteOf (s.chan i).sendQ.length, byteOf (s.chan i).recvQ.length]) := by
    rw [State.doChRelease, id, owned_of_owns hb own]
    exact if_neg live
  exact congrArg settled (request_answers (row := (· == 0x23#8)) w rfl rfl rfl act)

/-- A record that becomes FREE leaves the control-ready list, if it is on it (R1, R24). -/
theorem freeChan_eq (s : State) (i : ChanId) : s.freeChan i = (s.setChan i {}).setLink (s.chan i).link
    { s.link (s.chan i).link with ready :=
        if (s.chan i).owed = {} then (s.link (s.chan i).link).ready else (s.link (s.chan i).link).ready.filter (· != i) } := by
  simp [State.freeChan, setOwed_eq, readyAfter_nothing, setLink_setChan]

/-- A record that owes nothing becomes FREE. -/
theorem freeChan_of_quiet (h : (s.chan i).owed = {}) : s.freeChan i = s.setChan i {} := by
  rw [freeChan_eq, if_pos h]
  exact setLink_link (s.setChan i {}) _

theorem giveUp_listen (hs : (s.chan i).state = .listen) (quiet : (s.chan i).owed = {}) : s.giveUp i = s.setChan i {} := by
  rw [State.giveUp, hs]
  exact freeChan_of_quiet quiet

/-- An ENDED record frees its receive queue (R94, R127). -/
theorem giveUp_ended (hs : (s.chan i).state = .ended) (quiet : (s.chan i).owed = {}) : s.giveUp i =
    ((s.setChan i {}).setPool { s.pool with
      free := s.pool.free + heldBlocks (s.chan i).recvQ, rx := s.pool.rx - heldBlocks (s.chan i).recvQ }).serve := by
  simp only [State.giveUp, hs]
  rw [freeChan_of_quiet (s := s.freeRxMsgs (s.chan i).recvQ) quiet, freeRxMsgs_eq, setPool_setChan]

/-- An OPENING record whose OPEN is still owed gives up its reservation and its place on the control-ready list (R24, R96, R127). -/
theorem giveUp_unopened (hs : (s.chan i).state = .opening) (owed : (s.chan i).owed.opn = true) : s.giveUp i =
    (((s.setChan i {}).setLink (s.chan i).link
      { s.link (s.chan i).link with ready := (s.link (s.chan i).link).ready.filter (· != i) }).setPool { s.pool with
        reserved := s.pool.reserved - (s.chan i).outstanding, creditOwed := s.pool.creditOwed.filter (· != i) }).serve := by
  have owing : (s.chan i).owed ≠ {} := fun e => by simp [e] at owed
  simp only [State.giveUp, hs, owed, if_true]
  simp [freeChan_eq, State.releaseCredit, owing, Pool.unreserve, setPool_setChan, setLink_setChan, setLink_setPool]

/-- Any other record of a conversation is aborted (R127). -/
theorem giveUp_aborts (live : (s.chan i).state = .opening ∧ (s.chan i).owed.opn = false ∨ (s.chan i).state = .opened
    ∨ (s.chan i).state = .closing) : s.giveUp i = s.abortChan i := by
  rcases live with ⟨hs, sent⟩ | hs | hs
  · simp [State.giveUp, hs, sent]
  · simp only [State.giveUp, hs]
  · simp only [State.giveUp, hs]

end Release

/-- Settles O37, by the state of the record. -/
theorem chReleaseGivesUpARecord : Obligations.ChReleaseGivesUpARecord := by
  intro s p h st b i w hb own c k ok
  have run {t : State} (live : c.state ≠ .aborting) (e : s.giveUp i = t) : ok t := by rw [← e]; exact exec_chRelease w hb own live
  refine ⟨fun hs quiet => run ?_ (giveUp_listen hs quiet), fun hs quiet => run ?_ (giveUp_ended hs quiet),
    fun hs owed => run ?_ (giveUp_unopened hs owed), fun live => run ?_ (giveUp_aborts live)⟩
  · simp [hs]
  · simp [hs]
  · simp [hs]
  · rcases live with ⟨hs, -⟩ | hs | hs <;> simp [hs]

/-! ## CHAN-CLOSE and CHAN-CLOSED -/

section Matching
variable {t : State} {l : LinkId} {dst src : ChanId} (hm : t.Matches l dst src)
include hm

/-- A CHAN-CLOSE ends a record whose own close has not been taken (R128, R129). -/
theorem closeEffect_ends (abort : Bool) (h : (t.chan dst).state = .opening ∨ (t.chan dst).state = .opened
    ∨ (t.chan dst).state = .closing ∧ (t.chan dst).closeSent = false) :
    t.closeEffect l dst src abort = t.endChan dst (closeReason abort) := by
  refine (if_pos (fits_iff.mpr hm)).trans ?_
  rcases h with hs | hs | ⟨hs, sent⟩
  · simp only [hs]
  · simp only [hs]
  · simp [hs, sent]

/-- A CHAN-CLOSE frees an ABORTING record whose close has not been taken (R130). -/
theorem closeEffect_frees (abort : Bool) (hs : (t.chan dst).state = .aborting) (sent : (t.chan dst).closeSent = false) :
    t.closeEffect l dst src abort = t.freedAborted dst := by
  refine (if_pos (fits_iff.mpr hm)).trans ?_
  simp [hs, sent, freeAborted_eq]

/-- Where the record's close has been taken, the two closes cross, and CHAN-CLOSED is awaited (R129, R130). -/
theorem closeEffect_crosses (abort : Bool) (hs : (t.chan dst).state = .closing ∨ (t.chan dst).state = .aborting)
    (sent : (t.chan dst).closeSent = true) : t.closeEffect l dst src abort = t := by
  refine (if_pos (fits_iff.mpr hm)).trans ?_
  rcases hs with hs | hs <;> simp [hs, sent]

/-- CHAN-CLOSED answers the close of a CLOSING record (R131). -/
theorem deliverClosed_ends (hs : (t.chan dst).state = .closing) (sent : (t.chan dst).closeSent = true) :
    t.deliverClosed l dst src = t.endChan dst .closed := by
  refine (if_pos ⟨fits_iff.mpr hm, sent⟩).trans ?_
  simp only [hs]

/-- CHAN-CLOSED answers the close of an ABORTING record (R126). -/
theorem deliverClosed_frees (hs : (t.chan dst).state = .aborting) (sent : (t.chan dst).closeSent = true) :
    t.deliverClosed l dst src = t.freedAborted dst := by
  refine (if_pos ⟨fits_iff.mpr hm, sent⟩).trans ?_
  simp only [hs, freeAborted_eq]

end Matching

/-- Settles O49: Table 7-3, by the state of the record and whether its close has been taken. -/
theorem closeAndClosedEndTheConversation : Obligations.CloseAndClosedEndTheConversation := by
  intro s l nr dst src x h t c hm
  refine ⟨?_, ?_⟩
  · rintro abort rfl r answered
    have run {u : State} (e : t.closeEffect l dst src abort = u) : answered u := by
      rw [← e]
      have taken := exec_chanClose h
      rwa [State.deliverClose, answer_eq] at taken
    exact ⟨fun hs => run (closeEffect_ends hm abort hs), fun hs sent => run (closeEffect_frees hm abort hs sent),
      fun hs sent => run (closeEffect_crosses hm abort hs sent)⟩
  · rintro rfl sent
    refine ⟨fun hs => ?_, fun hs => ?_⟩
    · rw [exec_chanClosed h, deliverClosed_ends hm hs sent]
    · rw [exec_chanClosed h, deliverClosed_frees hm hs sent]

end Sys2Proof.Machine
end

section
/-! SUPPORT. Frames as bytes: each reader of a field gives the value whose byte it has read, so that reading a body and sending a frame are
inverse to each other (R139, R144, R145), and the CRC is a remainder of polynomials over GF(2) (R139). -/

namespace Sys2Proof.Machine

/-! ## Fields read -/

theorem seqByte_of_readSeq {b : Byte} {n : Seq} (h : readSeq b = some n) : seqByte n = b := by
  obtain ⟨hb, h⟩ := Option.ite_none_right_eq_some.mp h
  cases h
  apply BitVec.eq_of_toNat_eq
  simp only [seqByte, BitVec.toNat_setWidth]
  omega

theorem byteOf_of_readRange {lo hi n : Nat} {b : Byte} (h : readRange lo hi b = some n) : byteOf n = b ∧ lo ≤ n ∧ n ≤ hi := by
  obtain ⟨hb, h⟩ := Option.ite_none_right_eq_some.mp h
  cases h
  exact ⟨ofNat_toNat_byte b, hb⟩

theorem eq_of_readEpoch {b e : Byte} (h : readEpoch b = some e) : e = b ∧ e ≠ 0#8 := by
  obtain ⟨hb, h⟩ := Option.ite_none_left_eq_some.mp h
  cases h
  exact ⟨rfl, hb⟩

theorem byteOf_of_readRefusal {b : Byte} {r : Reason} (h : readRefusal b = some r) :
    byteOf r.code = b ∧ Content.wellFormed (.ctl (.refuse r)) = true := by
  unfold readRefusal at h
  split_ifs at h with h1 h2 h3 <;> cases h
  · exact ⟨h1.symm, rfl⟩
  · exact ⟨h2.symm, rfl⟩
  · exact ⟨h3.symm, rfl⟩

theorem flagByte_of_readFlag {b : Byte} {a : Bool} (h : readFlag b = some a) : flagByte a = b := by
  unfold readFlag at h
  split_ifs at h with h1 h2 <;> cases h
  · exact h1.symm
  · exact h2.symm

theorem chanByte_of_chanOf {b : Byte} {i : ChanId} (h : chanOf b.toNat = some i) : chanByte i = b := by
  unfold chanOf at h
  split at h <;> cases h
  exact ofNat_toNat_byte b

/-- The length field of a DATA frame is that of its payload (Table 10-4). -/
theorem be16_of_fromBe16 {hi lo : Byte} {n : Nat} (h : fromBe16 hi lo = n) : be16 n = [hi, lo] := by
  have := hi.isLt
  have := lo.isLt
  have high : byteOf (n / 256) = hi := by apply BitVec.eq_of_toNat_eq; simp only [byteOf_toNat, ← h, fromBe16]; omega
  have low : byteOf n = lo := by apply BitVec.eq_of_toNat_eq; simp only [byteOf_toNat, ← h, fromBe16]; omega
  rw [be16, high, low]

/-- The STATUS flags byte holds its two flags (section 10.2). -/
theorem statusFlags_of_readRange {b : Byte} {n : Nat} (h : readRange 0 3 b = some n) : statusFlags (n % 2 == 1) (n / 2 == 1) = b := by
  obtain ⟨rfl, -, le⟩ := byteOf_of_readRange h
  interval_cases n <;> decide

/-! ## Frames read -/

/-- The fields after src are read back (R145). -/
theorem readContent_bytes {c : Content} (h : c.wellFormed = true) : readContent c.bytes.1 c.bytes.2 = some c := by
  rcases c with payload | ⟨w⟩ | ⟨w⟩ | ⟨r⟩ | ⟨a⟩ | _ | ⟨limit⟩
  · obtain ⟨h1, h2⟩ := of_decide_eq_true h
    simp [Content.bytes, readContent, be16, Config.maxMessage, h1, h2, fromBe16_be16 (show payload.length < 65536 by omega)]
  · obtain ⟨h1, h2⟩ := of_decide_eq_true h
    simp [Content.bytes, readContent, readRange_byteOf h1 h2]
  · obtain ⟨h1, h2⟩ := of_decide_eq_true h
    simp [Content.bytes, readContent, readRange_byteOf h1 h2]
  · have back : readRefusal (byteOf r.code) = some r := by
      simp only [Content.wellFormed, Bool.or_eq_true, beq_iff_eq] at h
      rcases h with (rfl | rfl) | rfl <;> rfl
    simp [Content.bytes, readContent, back]
  · simp [Content.bytes, readContent]
  · rfl
  · rfl

/-- Bytes read as the fields after src are the bytes of a content in the ranges of R145. -/
theorem bytes_of_readContent {kind : Byte} {rest : List Byte} {c : Content} (h : readContent kind rest = some c) :
    c.bytes = (kind, rest) ∧ c.wellFormed = true := by
  unfold readContent at h
  split at h
  · rename_i hk
    split at h
    · obtain ⟨⟨h1, h2, h3⟩, h⟩ := Option.ite_none_right_eq_some.mp h
      cases h
      exact ⟨by simp [Content.bytes, hk, be16_of_fromBe16 h3], decide_eq_true ⟨h1, h2⟩⟩
    · cases h
  split at h
  · rename_i hk
    split at h
    · obtain ⟨w, hw, rfl⟩ := Option.map_eq_some_iff.mp h
      obtain ⟨rfl, range⟩ := byteOf_of_readRange hw
      exact ⟨by rw [hk]; rfl, decide_eq_true range⟩
    · cases h
  split at h
  · rename_i hk
    split at h
    · obtain ⟨w, hw, rfl⟩ := Option.map_eq_some_iff.mp h
      obtain ⟨rfl, range⟩ := byteOf_of_readRange hw
      exact ⟨by rw [hk]; rfl, decide_eq_true range⟩
    · cases h
  split at h
  · rename_i hk
    split at h
    · obtain ⟨r, hr, rfl⟩ := Option.map_eq_some_iff.mp h
      obtain ⟨rfl, refusal⟩ := byteOf_of_readRefusal hr
      exact ⟨by rw [hk]; rfl, refusal⟩
    · cases h
  split at h
  · rename_i hk
    split at h
    · obtain ⟨a, ha, rfl⟩ := Option.map_eq_some_iff.mp h
      exact ⟨by rw [hk, ← flagByte_of_readFlag ha]; rfl, rfl⟩
    · cases h
  split at h
  · rename_i hk
    split at h <;> cases h
    exact ⟨by rw [hk]; rfl, rfl⟩
  split at h
  · rename_i hk
    split at h <;> cases h
    exact ⟨by rw [hk]; rfl, rfl⟩
  · cases h

/-- A sequenced frame is read back from its bytes (R145). -/
theorem readSequenced_bytes {c : Content} (h : c.wellFormed = true) (ns nr : Seq) (dst src : ChanId) :
    readSequenced c.bytes.1 (seqByte ns :: seqByte nr :: chanByte dst :: chanByte src :: c.bytes.2) = some (.seq ns nr dst src c) := by
  simp [readSequenced, readContent_bytes h]

theorem fields_of_readSequenced {kind : Byte} {fs : List Byte} {f : Frame} (h : readSequenced kind fs = some f) :
    f.wellFormed = true ∧ f.fields = kind :: fs := by
  unfold readSequenced at h
  split at h
  · obtain ⟨ns, hns, h⟩ := Option.bind_eq_some_iff.mp h
    obtain ⟨nr, hnr, h⟩ := Option.bind_eq_some_iff.mp h
    obtain ⟨dst, hdst, h⟩ := Option.bind_eq_some_iff.mp h
    obtain ⟨src, hsrc, h⟩ := Option.bind_eq_some_iff.mp h
    obtain ⟨c, hc, rfl⟩ := Option.map_eq_some_iff.mp h
    obtain ⟨bytes, good⟩ := bytes_of_readContent hc
    refine ⟨good, ?_⟩
    simp only [Frame.fields, bytes, seqByte_of_readSeq hns, seqByte_of_readSeq hnr, chanByte_of_chanOf hdst, chanByte_of_chanOf hsrc]
  · cases h

/-- The kind code of a sequenced frame is none of those of link frames and supervisory frames (Table 10-2). -/
theorem content_kind (c : Content) : c.bytes.1 ≠ 0x11#8 ∧ c.bytes.1 ≠ 0x12#8 ∧ c.bytes.1 ≠ 0x13#8 ∧ c.bytes.1 ≠ 0x14#8
    ∧ c.bytes.1 ≠ 0x21#8 ∧ c.bytes.1 ≠ 0x22#8 := by
  rcases c with payload | ⟨w⟩ | ⟨w⟩ | ⟨r⟩ | ⟨a⟩ | _ | ⟨limit⟩ <;> simp [Content.bytes]

/-- The fields of a frame in the ranges of R145 are read as that frame. -/
theorem readFields_fields {f : Frame} (h : f.wellFormed = true) : readFields f.fields = some f := by
  cases f with
  | linkOpen sender w =>
    simp only [Frame.wellFormed, Bool.and_eq_true, bne_iff_ne, decide_eq_true_eq] at h
    obtain ⟨epoch, low, high⟩ := h
    simp [Frame.fields, readFields, epoch, readRange_byteOf low high]
  | linkAccept echoed sender w =>
    simp only [Frame.wellFormed, Bool.and_eq_true, bne_iff_ne, decide_eq_true_eq] at h
    obtain ⟨⟨epoch, epoch'⟩, low, high⟩ := h
    simp [Frame.fields, readFields, epoch, epoch', readRange_byteOf low high]
  | linkClose | linkClosed => rfl
  | status nr poll answer =>
    simp only [Frame.fields, readFields, readRange_statusFlags]
    cases poll <;> cases answer <;> simp [bit]
  | resend nr => simp [Frame.fields, readFields]
  | seq ns nr dst src c =>
    obtain ⟨h1, h2, h3, h4, h5, h6⟩ := content_kind c
    simp only [Frame.fields, readFields, if_neg h1, if_neg h2, if_neg h3, if_neg h4, if_neg h5, if_neg h6]
    exact readSequenced_bytes h ns nr dst src

/-- Bytes that are read as a frame are the fields of a frame in the ranges of R145. -/
theorem fields_of_readFields {bs : List Byte} {f : Frame} (h : readFields bs = some f) : f.wellFormed = true ∧ f.fields = bs := by
  unfold readFields at h
  split at h
  · cases h
  split at h
  · rename_i hk
    split at h
    · obtain ⟨e, he, h⟩ := Option.bind_eq_some_iff.mp h
      obtain ⟨w, hw, rfl⟩ := Option.map_eq_some_iff.mp h
      obtain ⟨rfl, epoch⟩ := eq_of_readEpoch he
      obtain ⟨rfl, range⟩ := byteOf_of_readRange hw
      exact ⟨by simp [Frame.wellFormed, epoch, range], by rw [hk]; rfl⟩
    · cases h
  split at h
  · rename_i hk
    split at h
    · obtain ⟨e, he, h⟩ := Option.bind_eq_some_iff.mp h
      obtain ⟨e', he', h⟩ := Option.bind_eq_some_iff.mp h
      obtain ⟨w, hw, rfl⟩ := Option.map_eq_some_iff.mp h
      obtain ⟨rfl, epoch⟩ := eq_of_readEpoch he
      obtain ⟨rfl, epoch'⟩ := eq_of_readEpoch he'
      obtain ⟨rfl, range⟩ := byteOf_of_readRange hw
      exact ⟨by simp [Frame.wellFormed, epoch, epoch', range], by rw [hk]; rfl⟩
    · cases h
  split at h
  · rename_i hk
    split at h <;> cases h
    exact ⟨rfl, by rw [hk]; rfl⟩
  split at h
  · rename_i hk
    split at h <;> cases h
    exact ⟨rfl, by rw [hk]; rfl⟩
  split at h
  · rename_i hk
    split at h
    · obtain ⟨nr, hnr, h⟩ := Option.bind_eq_some_iff.mp h
      obtain ⟨n, hn, rfl⟩ := Option.map_eq_some_iff.mp h
      exact ⟨rfl, by rw [hk, Frame.fields, seqByte_of_readSeq hnr, statusFlags_of_readRange hn]⟩
    · cases h
  split at h
  · rename_i hk
    split at h
    · obtain ⟨nr, hnr, rfl⟩ := Option.map_eq_some_iff.mp h
      exact ⟨rfl, by rw [hk, Frame.fields, seqByte_of_readSeq hnr]⟩
    · cases h
  · exact fields_of_readSequenced h

/-- The body that is sent for a frame passes the checks (R144, R145). -/
theorem checkBody_body {f : Frame} (h : f.wellFormed = true) : checkBody f.body = .good f := by
  have length : ¬ f.body.length < 3 := by
    have := fields_length_pos f
    simp only [Frame.body, List.length_append, crcBytes_length]; omega
  simp only [checkBody, if_neg length, body_take, body_drop, ne_eq, not_true_eq_false, if_false, readFields_fields h]

/-! ## The CRC as a remainder (R139) -/

open Polynomial in
/-- The polynomial over GF(2) whose coefficients are the bits of a word. -/
noncomputable def bitPoly {w : Nat} (v : BitVec w) : (ZMod 2)[X] := ((List.range w).map fun k => if v.getLsbD k then X ^ k else 0).sum

open Polynomial in
/-- The divisor of R139. -/
noncomputable def crcDivisor : (ZMod 2)[X] := X ^ 16 + X ^ 15 + X ^ 2 + 1

section Crc
open Polynomial
variable {p : (ZMod 2)[X]} {c : BitVec 16}

theorem bitPoly_coeff {w : Nat} (v : BitVec w) (k : Nat) : (bitPoly v).coeff k = if v.getLsbD k then 1 else 0 := by
  have sum : bitPoly v = ∑ j ∈ Finset.range w, if v.getLsbD j then (X : (ZMod 2)[X]) ^ j else 0 := rfl
  have term (j : Nat) : (if v.getLsbD j then (X : (ZMod 2)[X]) ^ j else 0).coeff k = if k = j then (if v.getLsbD k then 1 else 0) else 0 := by
    split
    · rw [coeff_X_pow]; split <;> simp_all
    · split <;> simp_all
  rw [sum, finsetSum_coeff, Finset.sum_congr rfl fun j _ => term j, Finset.sum_ite_eq]
  by_cases h : k < w
  · simp [h]
  · simp [h, BitVec.getLsbD_of_ge v k (by omega)]

/-- Addition over GF(2) is exclusive or. -/
theorem bitPoly_xor {w : Nat} (u v : BitVec w) : bitPoly (u ^^^ v) = bitPoly u + bitPoly v := by
  ext k
  simp only [coeff_add, bitPoly_coeff, BitVec.getLsbD_xor]
  cases u.getLsbD k <;> cases v.getLsbD k <;> decide

theorem bitPoly_highByte (b : Byte) : bitPoly (b.setWidth 16 <<< 8) = bitPoly b * X ^ 8 := by
  ext k
  rw [coeff_mul_X_pow', bitPoly_coeff, bitPoly_coeff]
  by_cases h : 8 ≤ k
  · by_cases hk : k < 16
    · simp [h, hk, show ¬ k < 8 by omega]
    · simp [h, hk, BitVec.getLsbD_of_ge b (k - 8) (by omega)]
  · simp [h, show k < 8 by omega]

/-- A shift of the register multiplies by x; the bit that leaves it is that of x^16. -/
theorem bitPoly_mul_X (c : BitVec 16) : bitPoly c * X = bitPoly (c <<< 1) + if c.msb then X ^ 16 else 0 := by
  ext k
  have top : c.msb = c.getLsbD 15 := rfl
  have leaves : (if c.msb then (X : (ZMod 2)[X]) ^ 16 else 0).coeff k = if k = 16 ∧ c.getLsbD 15 = true then 1 else 0 := by
    rw [top]; cases c.getLsbD 15 <;> simp [coeff_X_pow]
  rw [coeff_add, leaves, bitPoly_coeff]
  cases k with
  | zero => simp
  | succ k =>
    rw [coeff_mul_X, bitPoly_coeff]
    rcases lt_trichotomy k 15 with h | rfl | h
    · simp [show k + 1 < 16 by omega, show k ≠ 15 by omega, BitVec.getLsbD_eq_getElem (show k < 16 by omega)]
    · simp
    · simp [show ¬ k + 1 < 16 by omega, show k ≠ 15 by omega, BitVec.getLsbD_of_ge c k (by omega)]

theorem bitPoly_divisor : bitPoly (0x8005#16) + X ^ 16 = crcDivisor := by
  simp [bitPoly, crcDivisor, List.range_succ]
  ring

/-- On division by the divisor of R139 the polynomial leaves the remainder that the register holds. -/
def Leaves (p : (ZMod 2)[X]) (c : BitVec 16) : Prop := ∃ q, p = q * crcDivisor + bitPoly c

theorem Leaves.shift (h : Leaves p c) : Leaves (p * X) (crcShift c) := by
  obtain ⟨q, rfl⟩ := h
  have shifted := bitPoly_mul_X c
  unfold crcShift
  split at shifted
  · refine ⟨q * X + 1, ?_⟩
    have twice : bitPoly (0x8005#16) + bitPoly (0x8005#16) = 0 := CharTwo.add_self_eq_zero _
    rw [if_pos ‹_›, bitPoly_xor, add_mul, shifted]
    linear_combination bitPoly_divisor - twice
  · refine ⟨q * X, ?_⟩
    rw [if_neg ‹_›, add_mul, shifted]
    ring

/-- A byte taken into the register. -/
theorem Leaves.byte (h : Leaves (p * X ^ 16) c) (b : Byte) : Leaves ((p * X ^ 8 + bitPoly b) * X ^ 16) (crcByte c b) := by
  have taken : Leaves (p * X ^ 16 + bitPoly b * X ^ 8) (c ^^^ (b.setWidth 16 <<< 8)) := by
    obtain ⟨q, hq⟩ := h
    exact ⟨q, by rw [bitPoly_xor, bitPoly_highByte, hq, add_assoc]⟩
  have shifted := taken.shift.shift.shift.shift.shift.shift.shift.shift
  have eq : (p * X ^ 8 + bitPoly b) * X ^ 16 = (p * X ^ 16 + bitPoly b * X ^ 8) * X * X * X * X * X * X * X * X := by ring
  rw [eq]
  exact shifted

/-- The register holds the remainder of the bytes taken, followed by 16 zeros (R139). -/
theorem leaves_crc16 (bs : List Byte) : Leaves (bs.foldl (fun p b => p * X ^ 8 + bitPoly b) 0 * X ^ 16) (crc16 bs) := by
  suffices ∀ (p : (ZMod 2)[X]) (c : BitVec 16), Leaves (p * X ^ 16) c →
      Leaves (bs.foldl (fun p b => p * X ^ 8 + bitPoly b) p * X ^ 16) (bs.foldl crcByte c) from
    this 0 0 ⟨0, by simp [bitPoly]⟩
  induction bs with
  | nil => exact fun _ _ h => h
  | cons b bs ih => exact fun p c h => ih _ _ (h.byte b)

end Crc

/-- The CRC stands at the end of a body high byte first (R139). -/
theorem crcBytes_eq (bs : List Byte) : crcBytes bs = [(crc16 bs).extractLsb' 8 8, (crc16 bs).extractLsb' 0 8] := by
  have high : byteOf ((crc16 bs).toNat / 256) = (crc16 bs).extractLsb' 8 8 := by
    apply BitVec.eq_of_toNat_eq; simp [Nat.shiftRight_eq_div_pow]
  have low : byteOf (crc16 bs).toNat = (crc16 bs).extractLsb' 0 8 := by
    apply BitVec.eq_of_toNat_eq; simp
  rw [crcBytes, be16, high, low]

/-- Settles O13. -/
theorem frameBodyReadsBack : Obligations.FrameBodyReadsBack :=
  ⟨fun _ => checkBody_body, fun _ _ => fields_of_readFields, fun f => congrArg (f.fields ++ ·) (crcBytes_eq f.fields), leaves_crc16⟩

end Sys2Proof.Machine
end

section
/-! SUPPORT. The receiver of a line port: what a character taken does in each of its states (R142 to R145), and what becomes of the
characters of a frame (R139, R146). -/

namespace Sys2Proof.Machine

/-! ## Characters in levels (R138) -/

/-- A run of whole characters is found character by character. -/
theorem read_characters (cs : List Byte) : Sampler.ready.read (cs.flatMap charLevels) = (.ready, cs.map .byte) := by
  induction cs with
  | nil => rfl
  | cons c cs ih => rw [List.flatMap_cons, read_charLevels, ih]; rfl

/-- A whole character after the marking level. -/
theorem read_marked (wait : Bool) (c : Byte) : (Sampler.start wait).read (true :: charLevels c) = (.ready, [.byte c]) := by
  have found := read_characters [c]
  rw [List.flatMap_singleton] at found
  rw [read_start_marking, found]; rfl

/-- A character whose stop bit is at the spacing level has a framing error, however long that level goes on. -/
theorem read_misframed (wait : Bool) {bits : List Bool} (h : bits.length = 8) (n : Nat) :
    (Sampler.start wait).read ([true, false] ++ bits ++ [false] ++ List.replicate n false) = (.waiting, [.framingError]) := by
  match bits, h with
  | [a, b, c, d, e, f, g, h], _ =>
    show (Sampler.start wait).read (true :: false :: a :: b :: c :: d :: e :: f :: g :: h :: false :: List.replicate n false) = _
    rw [read_start_marking, read_character]
    simp [read_waiting_spacing, charOf]

/-! ## A character on an enabled port -/

section Enabled
variable {s : State} {l : LinkId} {levels : List Bool} {c : LineChar} {x : Sampler} {y : LinePort} {b : Byte}
  (on : (s.line l).enabled = true)
include on

/-- A character that is not reported changes the port alone. -/
theorem receiveLevels_silent (found : (Sampler.start (s.line l).rxWait).read levels = (x, [c]))
    (taken : LinePort.receive { s.line l with rxWait := x == .waiting } c = (y, none)) : s.receiveLevels l levels = s.setLine l y := by
  rw [receiveLevels_one on found, receiveChar_eq, line_setLine, taken, setLine_setLine]
  exact setLink_link (s.setLine l y) l

/-- A character that is reported raises the counter of its report too (R49). -/
theorem receiveLevels_reported {r : Report} (found : (Sampler.start (s.line l).rxWait).read levels = (x, [c]))
    (taken : LinePort.receive { s.line l with rxWait := x == .waiting } c = (y, some r)) :
    s.receiveLevels l levels = (s.setLine l y).setLink l { s.link l with counters := r.bump (s.link l).counters } := by
  rw [receiveLevels_one on found, receiveChar_eq, line_setLine, taken, setLine_setLine]
  rfl

theorem receiveByte_silent (taken : LinePort.receive { s.line l with rxWait := false } (.byte b) = (y, none)) :
    s.receiveByte l b = s.setLine l y := receiveLevels_silent on (read_marked _ b) taken

theorem receiveByte_reported {r : Report} (taken : LinePort.receive { s.line l with rxWait := false } (.byte b) = (y, some r)) :
    s.receiveByte l b = (s.setLine l y).setLink l { s.link l with counters := r.bump (s.link l).counters } :=
  receiveLevels_reported on (read_marked _ b) taken

end Enabled

/-! ## The table of the receiver (R142) -/

section Table
variable {x : LinePort} {b : Byte}

theorem receive_hunt (h : x.rx = .hunt) (b : Byte) :
    x.receive (.byte b) = (if b = delimiter then { x with rx := .gap } else x, none) := by
  cases x; cases h; rfl

theorem receive_gap (h : x.rx = .gap) (b : Byte) : x.receive (.byte b) = if b = delimiter then (x, none) else x.startBody b := by
  cases x; cases h; rfl

theorem receive_body (h : x.rx = .body) (b : Byte) : x.receive (.byte b) =
    if b = delimiter then x.endBody else if b = escapeByte then ({ x with rx := .escape }, none) else x.store b := by
  cases x; cases h; rfl

theorem receive_escape (h : x.rx = .escape) (b : Byte) : x.receive (.byte b) = x.unescape b := by
  cases x; cases h; rfl

/-- A framing error outside a body does nothing. -/
theorem receive_framingError_idle (h : x.rx = .hunt ∨ x.rx = .gap) : x.receive .framingError = (x, none) := by
  cases x; rcases h with h | h <;> cases h <;> rfl

/-- A framing error in a body discards the frame as a CRC error. -/
theorem receive_framingError_body (h : x.rx = .body ∨ x.rx = .escape) : x.receive .framingError = x.discard .hunt .crcError := by
  cases x; rcases h with h | h <;> cases h <;> rfl

theorem receive_hunt_delimiter (h : x.rx = .hunt) : x.receive (.byte delimiter) = ({ x with rx := .gap }, none) := by
  rw [receive_hunt h, if_pos rfl]

theorem receive_hunt_other (h : x.rx = .hunt) (hb : b ≠ delimiter) : x.receive (.byte b) = (x, none) := by
  rw [receive_hunt h, if_neg hb]

theorem receive_gap_delimiter (h : x.rx = .gap) : x.receive (.byte delimiter) = (x, none) := by
  rw [receive_gap h, if_pos rfl]

/-- With both receive buffers held the start of a body is an overrun (R143). -/
theorem receive_gap_overrun (h : x.rx = .gap) (hb : b ≠ delimiter) (full : 2 ≤ x.held.length) :
    x.receive (.byte b) = ({ x with rx := .hunt }, some .overrun) := by
  rw [receive_gap h, if_neg hb]
  exact if_pos full

/-- With a receive buffer free the start of a body claims it (R143). -/
theorem receive_gap_claims (h : x.rx = .gap) (hb : b ≠ delimiter) (room : x.held.length < 2) : x.receive (.byte b) =
    (if b = escapeByte then { x with filling := some [], rx := .escape } else { x with filling := some [b], rx := .body }, none) := by
  rw [receive_gap h, if_neg hb]
  refine (if_neg (Nat.not_le_of_lt room)).trans ?_
  split <;> rfl

theorem receive_body_delimiter (h : x.rx = .body) : x.receive (.byte delimiter) = x.endBody := by
  rw [receive_body h, if_pos rfl]

theorem receive_body_escape (h : x.rx = .body) : x.receive (.byte escapeByte) = ({ x with rx := .escape }, none) := by
  rw [receive_body h, if_neg (by decide), if_pos rfl]

theorem receive_body_other (h : x.rx = .body) (hd : b ≠ delimiter) (he : b ≠ escapeByte) : x.receive (.byte b) = x.store b := by
  rw [receive_body h, if_neg hd, if_neg he]

/-- The body after a byte more (R142). -/
theorem store_filling {bs : List Byte} (h : x.filling = some bs) (b : Byte) : x.store b =
    if 1033 ≤ bs.length then x.discard .hunt .formatError else ({ x with filling := some (bs ++ [b]), rx := .body }, none) := by
  cases x; cases h; rfl

theorem store_room {bs : List Byte} (h : x.filling = some bs) (room : bs.length < 1033) (b : Byte) :
    x.store b = ({ x with filling := some (bs ++ [b]), rx := .body }, none) := by
  rw [store_filling h, if_neg (Nat.not_le_of_lt room)]

/-- The 1034th byte of a body discards the frame (R142). -/
theorem store_full {bs : List Byte} (h : x.filling = some bs) (full : ¬ bs.length < 1033) (b : Byte) :
    x.store b = x.discard .hunt .formatError := by
  rw [store_filling h, if_pos (Nat.le_of_not_lt full)]

end Table

/-! ## FRAME_BODY_START and FRAME_END (R143, R144) -/

/-- Settles O15. -/
theorem frameBodyStartClaimsABuffer : Obligations.FrameBodyStartClaimsABuffer := by
  intro s l b on gap hb
  exact ⟨fun room => congrArg Host.Outcome.next (receiveByte_silent on (receive_gap_claims gap hb room)),
    fun full => congrArg Host.Outcome.next (receiveByte_reported on (receive_gap_overrun gap hb full))⟩

section EndBody
variable {x : LinePort} {b : List Byte}

theorem checkBody_crcError (h : b.length < 3 ∨ crcBytes (b.take (b.length - 2)) ≠ b.drop (b.length - 2)) : checkBody b = .crcError := by
  unfold checkBody
  split
  · rfl
  · exact if_pos (h.resolve_left ‹_›)

/-- A body whose CRC agrees is judged by its format (R144). -/
theorem checkBody_fields (length : 3 ≤ b.length) (crc : crcBytes (b.take (b.length - 2)) = b.drop (b.length - 2)) :
    checkBody b = match readFields (b.take (b.length - 2)) with
      | some f => .good f
      | none => .formatError := by
  unfold checkBody
  rw [if_neg (Nat.not_lt.mpr length)]
  exact if_neg (not_not.mpr crc)

theorem endBody_discards {r : Report} (h : x.filling = some b)
    (verdict : checkBody b = .crcError ∧ r = .crcError ∨ checkBody b = .formatError ∧ r = .formatError) :
    x.endBody = ({ x with filling := none, rx := .gap }, some r) := by
  rcases verdict with ⟨verdict, rfl⟩ | ⟨verdict, rfl⟩ <;> simp only [LinePort.endBody, h, Option.getD_some, verdict] <;> rfl

theorem endBody_holds {f : Frame} (h : x.filling = some b) (verdict : checkBody b = .good f) :
    x.endBody = ({ x with filling := none, held := x.held ++ [f], rx := .gap }, some .good) := by
  simp only [LinePort.endBody, h, Option.getD_some, verdict]

end EndBody

/-- Settles O16: the three verdicts of R144. -/
theorem frameEndChecksTheBody : Obligations.FrameEndChecksTheBody := by
  intro s l b on body filling
  have run {y : LinePort} {r : Report} (taken : LinePort.endBody { s.line l with rxWait := false } = (y, some r)) :
      exec (.frameEnd l) s = .next ((s.setLine l y).setLink l { s.link l with counters := r.bump (s.link l).counters }) :=
    congrArg Host.Outcome.next (receiveByte_reported on ((receive_body_delimiter (x := { s.line l with rxWait := false }) body).trans taken))
  refine ⟨fun bad => ?_, fun length crc format => ?_, fun f length crc format => ?_⟩
  · exact run (endBody_discards filling (.inl ⟨checkBody_crcError bad, rfl⟩))
  · exact run (endBody_discards filling (.inr ⟨by rw [checkBody_fields length crc, format], rfl⟩))
  · exact run (endBody_holds filling (by rw [checkBody_fields length crc, format]))

/-! ## BODY_CHARACTER and HUNT_DELIMITER (R142) -/

/-- A receiver that waits for the marking level takes nothing from a spacing level, however long (R138). -/
theorem receiveLevels_spacing {s : State} {l : LinkId} (wait : (s.line l).rxWait = true) (n : Nat) :
    s.receiveLevels l (List.replicate n false) = s := by
  have found : (Sampler.start (s.line l).rxWait).read (List.replicate n false) = (.waiting, []) := by
    rw [wait]; exact read_waiting_spacing n
  have same : ({ s.line l with rxWait := true } : LinePort) = s.line l := by rw [← wait]
  unfold State.receiveLevels
  dsimp only
  split
  · rfl
  · rw [found]
    exact (congrArg (s.setLine l) same).trans (setLine_line s l)

section Characters
variable {s : State} {l : LinkId} {c : Byte} {y : LinePort} {r : Report} (on : (s.line l).enabled = true)
include on

theorem exec_bodyCharacter_silent (taken : LinePort.receive { s.line l with rxWait := false } (.byte c) = (y, none)) :
    exec (.bodyCharacter l (true :: charLevels c)) s = .next (s.setLine l y) :=
  congrArg Host.Outcome.next (receiveByte_silent on taken)

theorem exec_bodyCharacter_reported (taken : LinePort.receive { s.line l with rxWait := false } (.byte c) = (y, some r)) :
    exec (.bodyCharacter l (true :: charLevels c)) s =
      .next ((s.setLine l y).setLink l { s.link l with counters := r.bump (s.link l).counters }) :=
  congrArg Host.Outcome.next (receiveByte_reported on taken)

/-- A byte stored in the body being received, or the frame discarded by its 1034th. -/
theorem exec_bodyCharacter_stores {b : List Byte} {d : Byte} (filling : (s.line l).filling = some b)
    (taken : LinePort.receive { s.line l with rxWait := false } (.byte c) = LinePort.store { s.line l with rxWait := false } d) :
    exec (.bodyCharacter l (true :: charLevels c)) s = .next
      (if b.length < 1033 then s.setLine l { s.line l with rxWait := false, filling := some (b ++ [d]), rx := .body }
      else (s.setLine l { s.line l with rxWait := false, filling := none, rx := .hunt }).setLink l
        { s.link l with counters := { (s.link l).counters with formatErrors := (s.link l).counters.formatErrors + 1 } }) := by
  split
  · exact exec_bodyCharacter_silent on (taken.trans (store_room (x := { s.line l with rxWait := false }) filling ‹_› d))
  · exact exec_bodyCharacter_reported on (taken.trans (store_full (x := { s.line l with rxWait := false }) filling ‹_› d))

theorem exec_misframed_silent (taken : LinePort.receive { s.line l with rxWait := true } .framingError = (y, none))
    (bits : List Bool) (n : Nat) (h : bits.length = 8) :
    exec (.bodyCharacter l ([true, false] ++ bits ++ [false] ++ List.replicate n false)) s = .next (s.setLine l y) :=
  congrArg Host.Outcome.next (receiveLevels_silent on (read_misframed _ h n) taken)

theorem exec_misframed_reported (taken : LinePort.receive { s.line l with rxWait := true } .framingError = (y, some r))
    (bits : List Bool) (n : Nat) (h : bits.length = 8) :
    exec (.bodyCharacter l ([true, false] ++ bits ++ [false] ++ List.replicate n false)) s =
      .next ((s.setLine l y).setLink l { s.link l with counters := r.bump (s.link l).counters }) :=
  congrArg Host.Outcome.next (receiveLevels_reported on (read_misframed _ h n) taken)

end Characters

section Unescape
variable {x : LinePort} {b : Byte}

/-- A delimiter after an escape discards the frame and begins the gap (R142). -/
theorem unescape_delimiter : x.unescape delimiter = x.discard .gap .formatError := by
  simp [LinePort.unescape, delimiter]

theorem unescape_other (hd : b ≠ 0xA5#8) (h85 : b ≠ 0x85#8) (h7A : b ≠ 0x7A#8) : x.unescape b = x.discard .hunt .formatError := by
  simp [LinePort.unescape, delimiter, hd, h85, h7A]

end Unescape

/-- Settles O17: the table of R142, row by row. -/
theorem bodyCharactersFollowTheTable : Obligations.BodyCharactersFollowTheTable := by
  intro s l b
  refine ⟨fun off => ?_, fun on => ⟨fun wait n => ?_, fun hunt => ?_, fun gap => ?_, fun filling body => ?_, fun filling escape => ?_⟩⟩
  · have nothing (levels : List Bool) : s.receiveLevels l levels = s := receiveLevels_disabled off levels
    exact ⟨fun levels => congrArg Host.Outcome.next (nothing levels), congrArg Host.Outcome.next (nothing _),
      congrArg Host.Outcome.next (nothing _), fun c => congrArg Host.Outcome.next (nothing _)⟩
  · exact congrArg Host.Outcome.next (receiveLevels_spacing wait n)
  · exact ⟨exec_bodyCharacter_silent on (receive_hunt_delimiter hunt), exec_bodyCharacter_silent on (receive_hunt_delimiter hunt),
      fun bits n => exec_misframed_silent on (receive_framingError_idle (.inl hunt)) bits n,
      fun c hc => exec_bodyCharacter_silent on (receive_hunt_other hunt hc)⟩
  · exact ⟨exec_bodyCharacter_silent on (receive_gap_delimiter gap),
      fun bits n => exec_misframed_silent on (receive_framingError_idle (.inr gap)) bits n⟩
  · exact ⟨fun bits n => exec_misframed_reported on (receive_framingError_body (.inl body)) bits n,
      exec_bodyCharacter_silent on (receive_body_escape body),
      fun c hd he => exec_bodyCharacter_stores on filling (receive_body_other body hd he)⟩
  · exact ⟨fun bits n => exec_misframed_reported on (receive_framingError_body (.inr escape)) bits n,
      exec_bodyCharacter_stores on filling (receive_escape escape _),
      exec_bodyCharacter_stores on filling (receive_escape escape _),
      exec_bodyCharacter_reported on ((receive_escape escape _).trans unescape_delimiter),
      fun c hd h85 h7A => exec_bodyCharacter_reported on ((receive_escape escape _).trans (unescape_other hd h85 h7A))⟩

/-! ## The characters of a frame (R139, R146) -/

theorem receiveAll_cons (x : LinePort) (b : Byte) (cs : List Byte) :
    x.receiveAll (b :: cs) = (x.receive (.byte b)).1.receiveAll cs := rfl

theorem receiveAll_append (x : LinePort) (cs ds : List Byte) : x.receiveAll (cs ++ ds) = (x.receiveAll cs).receiveAll ds :=
  List.foldl_append

section Body
variable {x : LinePort} {bs : List Byte}

/-- The characters of a byte store it in the body being received. -/
theorem receiveAll_escapeOf (body : x.rx = .body) (filling : x.filling = some bs) (room : bs.length < 1033) (b : Byte) :
    x.receiveAll (escapeOf b) = { x with filling := some (bs ++ [b]), rx := .body } := by
  have after (d : Byte) : LinePort.store { x with rx := .escape } d = ({ x with filling := some (bs ++ [d]), rx := .body }, none) :=
    store_room filling room d
  unfold escapeOf
  split
  · rename_i e; subst e
    rw [receiveAll_cons, receive_body_escape body, receiveAll_cons, receive_escape rfl]
    exact congrArg Prod.fst (after delimiter)
  split
  · rename_i e; subst e
    rw [receiveAll_cons, receive_body_escape body, receiveAll_cons, receive_escape rfl]
    exact congrArg Prod.fst (after escapeByte)
  · rw [receiveAll_cons, receive_body_other body ‹_› ‹_›, store_room filling room]; rfl

/-- The characters of a run of bytes store them, as far as a body goes. -/
theorem receiveAll_escaped (cs : List Byte) (body : x.rx = .body) (filling : x.filling = some bs) (room : bs.length + cs.length ≤ 1033) :
    x.receiveAll (cs.flatMap escapeOf) = { x with filling := some (bs ++ cs) } := by
  induction cs generalizing x bs with
  | nil => rw [List.append_nil, ← filling]; rfl
  | cons c cs ih =>
    rw [List.length_cons] at room
    rw [List.flatMap_cons, receiveAll_append, receiveAll_escapeOf body filling (by omega),
      ih rfl rfl (by rw [List.length_append, List.length_singleton]; omega), ← body, List.append_assoc, List.singleton_append]

/-- The characters of the first byte of a body claim a buffer for it (R143). -/
theorem receiveAll_first (gap : x.rx = .gap) (room : x.held.length < 2) (b : Byte) :
    x.receiveAll (escapeOf b) = { x with filling := some [b], rx := .body } := by
  have claimed : x.receive (.byte escapeByte) = ({ x with filling := some [], rx := .escape }, none) := by
    rw [receive_gap_claims gap (by decide) room, if_pos rfl]
  have after (d : Byte) : LinePort.store { x with filling := some [], rx := .escape } d = ({ x with filling := some [d], rx := .body }, none) :=
    store_room (bs := []) rfl (by decide) d
  unfold escapeOf
  split
  · rename_i e; subst e
    rw [receiveAll_cons, claimed, receiveAll_cons, receive_escape rfl]
    exact congrArg Prod.fst (after delimiter)
  split
  · rename_i e; subst e
    rw [receiveAll_cons, claimed, receiveAll_cons, receive_escape rfl]
    exact congrArg Prod.fst (after escapeByte)
  · rw [receiveAll_cons, receive_gap_claims gap ‹_› room, if_neg ‹_›]; rfl

/-- A body whose characters come between two delimiters is held, when it passes the checks. -/
theorem receiveAll_body {b : Byte} {cs : List Byte} {f : Frame} (gap : x.rx = .gap) (room : x.held.length < 2)
    (length : (b :: cs).length ≤ 1033) (verdict : checkBody (b :: cs) = .good f) :
    x.receiveAll ((b :: cs).flatMap escapeOf ++ [delimiter]) = { x with filling := none, held := x.held ++ [f] } := by
  rw [List.length_cons] at length
  rw [List.flatMap_cons, List.append_assoc, receiveAll_append, receiveAll_append, receiveAll_first gap room,
    receiveAll_escaped cs rfl rfl (by rw [List.length_singleton]; omega), receiveAll_cons, receive_body_delimiter rfl,
    endBody_holds rfl verdict, ← gap]
  rfl

end Body

/-- The body of a frame in the ranges of R145 fits a receive buffer. -/
theorem body_length_le {f : Frame} (h : f.wellFormed = true) : f.body.length ≤ 1033 := by
  rw [Frame.body, List.length_append, crcBytes_length]
  cases f with
  | seq ns nr dst src c =>
    rcases c with payload | ⟨w⟩ | ⟨w⟩ | ⟨r⟩ | ⟨a⟩ | _ | ⟨limit⟩
    · obtain ⟨-, le⟩ := of_decide_eq_true h
      simp only [Frame.fields, Content.bytes, be16, List.length_cons, List.length_append, List.length_nil]
      omega
    all_goals simp [Frame.fields, Content.bytes]
  | linkOpen _ _ | linkAccept _ _ _ | linkClose | linkClosed | status _ _ _ | resend _ => simp [Frame.fields]

/-- The delimiter before a frame leaves the receiver in GAP. -/
theorem receive_opening {x : LinePort} (h : x.rx = .hunt ∨ x.rx = .gap) : x.receive (.byte delimiter) = ({ x with rx := .gap }, none) := by
  rcases h with h | h
  · exact receive_hunt_delimiter h
  · rw [receive_gap_delimiter h, ← h]

/-- Settles O14: the opening delimiter leads to GAP, each byte of the body is stored, and the closing delimiter holds the frame. -/
theorem frameOnLineIsReceived : Obligations.FrameOnLineIsReceived := by
  intro x f good waits room
  refine ⟨?_, ?_, rfl, read_characters f.lineChars⟩
  · have length := body_length_le good
    have verdict := checkBody_body good
    obtain ⟨b, cs, hb⟩ : ∃ b cs, f.body = b :: cs := List.exists_cons_of_length_pos (by rw [Frame.body, List.length_append]; simp)
    rw [hb] at length verdict
    rw [Frame.lineChars, hb, receiveAll_cons, receive_opening waits]
    exact receiveAll_body (x := { x with rx := .gap }) rfl room length verdict
  · simp only [List.mem_flatMap, not_exists, not_and]
    exact fun b _ => delimiter_notMem_escapeOf b

end Sys2Proof.Machine
end

section
/-! SUPPORT. The output of a line port and the ends of a transmission (R137, R140, R141), and the samples of LRDYn (R43, R147). -/

namespace Sys2Proof.Machine

/-! ## The ends of a transmission (R137, R140, R141) -/

theorem execTransmitComplete_uncut {s : State} {l : LinkId} {t : TxSlot} (h : (s.line l).tx = some t) (hc : t.cut = none) :
    exec (.transmitComplete l) s = .next ((s.setLine l { s.line l with tx := none }).setLink l
      { s.link l with counters := { (s.link l).counters with framesSent := (s.link l).counters.framesSent + 1 } }).settle
    ∧ exec (.truncationComplete l) s = .refused .nothingToComplete := by
  constructor
  · simp only [exec, execTransmitComplete, h, hc]; rfl
  · simp only [exec, execTruncationComplete, h, hc]; rfl

theorem execTruncationComplete_cut {s : State} {l : LinkId} {t : TxSlot} (h : (s.line l).tx = some t) (hc : t.cut ≠ none) :
    exec (.truncationComplete l) s = .next (s.setLine l { s.line l with tx := none }).settle
    ∧ exec (.transmitComplete l) s = .refused .nothingToComplete := by
  have cut : t.cut.isSome = true := Option.isSome_iff_ne_none.mpr hc
  constructor
  · simp only [exec, execTruncationComplete, h, cut]; rfl
  · simp only [exec, execTransmitComplete, h, cut]; rfl

/-- An enabled port carries the characters of the frame in its transmit buffer (R140, R141). -/
theorem output_frame {x : LinePort} {t : TxSlot} (on : x.enabled = true) (h : x.tx = some t) :
    x.output = .frame (t.chars.take t.begun) (t.chars.drop t.begun) := by
  simp [LinePort.output, on, h]

/-- Settles O18. -/
theorem transmissionEnds : Obligations.TransmissionEnds := by
  refine ⟨fun s l t h => ⟨execTransmitComplete_uncut h, execTruncationComplete_cut h⟩, fun x => ⟨fun off => ?_, fun on h => ?_,
    fun t on h => ⟨t.chars, output_frame on h, chars_uncut, fun n => chars_cut⟩, rfl, rfl, fun _ _ _ => rfl⟩⟩
  · simp [LinePort.output, off]
  · simp [LinePort.output, on, h]

/-! ## Samples of LRDYn (R43, R147) -/

/-- A loss of line-ready acts by the state of the link (R43). -/
theorem lineLost_cases (s : State) (l : LinkId) :
    ((s.link l).state = .starting → s.lineLost l = s.fell l .failed .lineLost { (s.link l).owedLink with opn := false })
    ∧ ((s.link l).state = .up → s.lineLost l =
      (s.teardown l .lineLost).fell l .failed .lineLost { (s.link l).owedLink with opn := false })
    ∧ ((s.link l).state = .stopping → s.lineLost l = s.fell l .down .lineLost { (s.link l).owedLink with close := false })
    ∧ ((s.link l).state = .down ∨ (s.link l).state = .listening ∨ (s.link l).state = .failed → s.lineLost l = s) := by
  refine ⟨fun hs => ?_, fun hs => ?_, fun hs => ?_, fun hs => ?_⟩
  · simp only [State.lineLost, hs, enterFailed_eq]
  · simp only [State.lineLost, hs, enterFailed_eq, teardown_owedLink]
  · simp only [State.lineLost, hs, completeStop_eq]
  · rcases hs with hs | hs | hs <;> simp only [State.lineLost, hs]

/-- Settles O19. -/
theorem lineReadySamples : Obligations.LineReadySamples := by
  intro s l
  have kept (v : Bool) (on : (s.line l).enabled = true) : s.keepSample l v = s.setLine l { s.line l with lrdy := v, lineReady := some v } :=
    congrArg (s.setLine l) (sampled_enabled on v)
  have level (v : Bool) (off : (s.line l).enabled = false) : s.keepSample l v = s.setLine l { s.line l with lrdy := v } :=
    congrArg (s.setLine l) (sampled_disabled off v)
  have unreported (h : ¬ ((s.line l).enabled = true ∧ (s.line l).lineReady = some true)) :
      exec (.lineReadyDeasserted l) s = .next (s.keepSample l false) := if_neg h
  refine ⟨fun on => congrArg Host.Outcome.next (kept true on), fun off => ⟨congrArg Host.Outcome.next (level true off), ?_⟩,
    fun on was => ?_, fun on was => ?_⟩
  · rw [unreported (by simp [off]), level false off]
  · rw [unreported (by simp [was]), kept false on]
  · have reported : exec (.lineReadyDeasserted l) s = .next ((s.keepSample l false).lineLost l).settle := if_pos ⟨on, was⟩
    obtain ⟨starting, up, stopping, elsewhere⟩ := lineLost_cases (s.keepSample l false) l
    dsimp only
    rw [reported, ← kept false on]
    exact ⟨fun hs => by rw [starting hs]; rfl, fun hs => by rw [up hs]; rfl, fun hs => by rw [stopping hs]; rfl,
      fun hs => by rw [elsewhere hs]⟩

end Sys2Proof.Machine
end

section
/-! SUPPORT. The laws that speak of each part by itself: what a line port has to obey (R137, R141 to R146), and what the frames sent are
built from (R145, R167), for each change that a step makes of a line port, a link record or a channel record. -/

namespace Sys2Proof.Machine

/-! ## The parts of the law of frames -/

/-- What a channel record gives to the frames sent is in the ranges of R145. -/
structure Chan.Fits (c : Chan) : Prop where
  queued : ∀ m ∈ c.sendQ, Content.wellFormed (.data m.payload) = true
  window : c.state ≠ .free ∨ c.owed ≠ {} → 1 ≤ c.rxWindow ∧ c.rxWindow ≤ 64

/-- What a link record gives to the frames sent is in the ranges of R145. -/
structure Link.Fits (k : Link) : Prop where
  params : ∀ q, k.params = some q → q.inRange = true
  started : k.state ≠ .down → k.ownEpoch ≠ 0#8
  openOwed : k.owedLink.opn = true → k.ownEpoch ≠ 0#8
  acceptOwed : k.owedLink.accept = true → k.ownEpoch ≠ 0#8 ∧ k.peerEpoch.isSome = true ∧ k.agreed.isSome = true
  peer : ∀ e, k.peerEpoch = some e → e ≠ 0#8
  agreed : ∀ a, k.agreed = some a → 1 ≤ a ∧ a ≤ 16
  together : k.peerEpoch.isSome = k.agreed.isSome
  entries : ∀ e ∈ k.rtx, e.body.wellFormed = true
  answers : ∀ a ∈ k.answers, ∀ r, a.refuse = some r → Content.wellFormed (.ctl (.refuse r)) = true

/-- The frames of a line port, held and being sent, are in the ranges of R145. -/
structure LinePort.Fits (x : LinePort) : Prop where
  sending : ∀ t, x.tx = some t → t.frame.wellFormed = true
  held : ∀ f ∈ x.held, f.wellFormed = true

theorem framesOk_iff {s : State} : s.FramesOk ↔ (∀ i, (s.chan i).Fits) ∧ (∀ l, (s.link l).Fits) ∧ ∀ l, (s.line l).Fits where
  mp h := ⟨fun i => ⟨h.queued i, h.windows i⟩, fun l => ⟨h.params l, h.started l, h.openOwed l, h.acceptOwed l, h.peer l, h.agreed l,
    h.together l, h.entries l, h.answers l⟩, fun l => ⟨h.sending l, h.held l⟩⟩
  mpr := fun ⟨chan, link, line⟩ =>
    { sending := fun l => (line l).sending, held := fun l => (line l).held, params := fun l => (link l).params
      started := fun l => (link l).started, openOwed := fun l => (link l).openOwed, acceptOwed := fun l => (link l).acceptOwed
      peer := fun l => (link l).peer, agreed := fun l => (link l).agreed, together := fun l => (link l).together
      entries := fun l => (link l).entries, answers := fun l => (link l).answers
      queued := fun i => (chan i).queued, windows := fun i => (chan i).window }

/-! ## Channel records -/

namespace Chan.Fits
variable {c d : Chan}

theorem default : Chan.Fits {} := ⟨by simp, by simp⟩

/-- A record in use keeps its window, and queues nothing new. -/
theorem used (h : c.Fits) (hs : c.state ≠ .free) (queue : ∀ m ∈ d.sendQ, m ∈ c.sendQ) (window : d.rxWindow = c.rxWindow) : d.Fits :=
  ⟨fun m hm => h.queued m (queue m hm), fun _ => by rw [window]; exact h.window (.inl hs)⟩

/-- A record given a grant (R100). -/
theorem granted (h : c.Fits) (g : d.grantedFrom c) : d.Fits := by
  obtain ⟨g, opened, rfl⟩ := g
  split
  · exact h
  · exact h.used (by simp [opened ‹_›]) (fun _ => id) rfl

end Chan.Fits

/-! ## Link records -/

theorem nextEpoch_ne_zero (e : Byte) : nextEpoch e ≠ 0#8 := by
  unfold nextEpoch
  split
  · decide
  · rename_i h
    intro h0
    apply h
    bv_omega

theorem unnoted_wellFormed (e : Entry) : e.unnoted.body.wellFormed = e.body.wellFormed := by
  obtain ⟨ns, i, j, m | c⟩ := e <;> rfl

namespace Link.Fits
variable {k : Link}

theorem default : Link.Fits {} := by constructor <;> simp

/-- What the channel table changes of a link record gives nothing to the frames sent. -/
theorem of_core {k' : Link} (h : k.Fits) (e : k'.core = k.core) : k'.Fits := by
  have rtx : k'.rtx.map Entry.unnoted = k.rtx.map Entry.unnoted := (congrArg Link.rtx e :)
  have e' : k' = { k with ready := k'.ready, rtx := k'.rtx } := by
    cases k; cases k'
    simp only [Link.core, Link.mk.injEq] at e ⊢
    tauto
  generalize k'.ready = q, k'.rtx = es at *
  subst e'
  refine { h with entries := fun x hx => ?_ }
  obtain ⟨y, hy, same⟩ := List.mem_map.mp (rtx ▸ List.mem_map_of_mem hx)
  rw [← unnoted_wellFormed, ← same, unnoted_wellFormed]
  exact h.entries y hy

/-- The window offered is in its range (R28). -/
theorem window (h : k.Fits) : 1 ≤ k.par.windowOffer ∧ k.par.windowOffer ≤ 16 := by
  unfold Link.par
  cases hp : k.params with
  | none => decide
  | some q =>
    obtain ⟨low, high, -⟩ := of_decide_eq_true (h.params q hp)
    exact ⟨low, high⟩

/-- Other owed link frames, of those owed before. -/
theorem owing (h : k.Fits) {o : OwedLink} (opn : o.opn = true → k.owedLink.opn = true)
    (accept : o.accept = true → k.owedLink.accept = true) : ({ k with owedLink := o } : Link).Fits :=
  { h with openOwed := fun e => h.openOwed (opn e), acceptOwed := fun e => h.acceptOwed (accept e) }

/-- A link torn down (R46). -/
theorem torn (h : k.Fits) : k.torn.Fits := { h with entries := by simp [Link.torn], answers := by simp [Link.torn] }

/-- A link falls, from a state in which it had been started, or to DOWN (R31, R42, R44). -/
theorem fell (h : k.Fits) {st : LinkState} (hs : st = .down ∨ k.state ≠ .down) (r : Reason) {o : OwedLink}
    (opn : o.opn = true → k.owedLink.opn = true) (accept : o.accept = true → k.owedLink.accept = true) : (k.fell st r o).Fits :=
  { h.owing opn accept with started := fun e => h.started (hs.resolve_left e) }

/-- A link that had been started enters UP (R39). -/
theorem rose (h : k.Fits) (hs : k.state ≠ .down) {peer : Byte} (hp : peer ≠ 0#8) {window : Nat} (hw : 1 ≤ window) {o : OwedLink}
    (opn : o.opn = false) : (k.rose peer (min k.par.windowOffer window) o).Fits :=
  { params := h.params
    started := fun _ => h.started hs
    openOwed := fun e => by rw [show o.opn = true from e] at opn; cases opn
    acceptOwed := fun _ => ⟨h.started hs, rfl, rfl⟩
    peer := fun e he => by cases he; exact hp
    agreed := fun a ha => by
      have := h.window
      cases ha
      omega
    together := rfl
    entries := by simp [Link.rose]
    answers := by simp [Link.rose] }

/-- LINK-ACCEPT owed in UP, where an epoch of the peer is known (R37, R40). -/
theorem oweAccept (h : k.Fits) (hs : k.state ≠ .down) (hp : k.peerEpoch.isSome = true) : k.oweAccept.Fits :=
  { h with acceptOwed := fun _ => ⟨h.started hs, hp, h.together ▸ hp⟩ }

/-- A new epoch, which is not 0 (R29). -/
theorem epoch (h : k.Fits) : ({ k with ownEpoch := nextEpoch k.ownEpoch } : Link).Fits :=
  { h with
    started := fun _ => nextEpoch_ne_zero _
    openOwed := fun _ => nextEpoch_ne_zero _
    acceptOwed := fun e => ⟨nextEpoch_ne_zero _, (h.acceptOwed e).2⟩ }

/-- A link with an epoch that is not 0 may be in any state and owe LINK-OPEN. -/
theorem opening (h : k.Fits) (he : k.ownEpoch ≠ 0#8) (st : LinkState) :
    ({ k with state := st, owedLink := { k.owedLink with opn := true } } : Link).Fits :=
  { h with started := fun _ => he, openOwed := fun _ => he }

/-- A link started with parameters in range (R30). -/
theorem startedWith (h : k.Fits) (p : Slot) {q : Params} (hq : q.inRange = true) : (k.started p q).Fits := by
  have numbered : ({ k with params := some q, ownEpoch := nextEpoch k.ownEpoch, controller := some p } : Link).Fits :=
    { h.epoch with params := fun q' e => by cases e; exact hq }
  unfold Link.started
  dsimp only
  split
  · exact { numbered.opening (nextEpoch_ne_zero _) .starting with }
  · exact { numbered with started := fun _ => nextEpoch_ne_zero _ }

/-- A new sequenced frame joins the retransmission list (R53). -/
theorem sent (h : k.Fits) {b : EntryBody} (hb : b.wellFormed = true) (dst src : ChanId) : (k.sent dst src b).Fits := by
  refine { h with entries := fun e he => ?_ }
  rcases List.mem_append.mp he with he | he
  · exact h.entries e he
  · rw [List.mem_singleton.mp he]; exact hb

/-- Entries acknowledged leave the retransmission list (R57, R58). -/
theorem acked (h : k.Fits) (nr : Seq) : (k.acked nr).Fits := by
  have rest : ∀ e ∈ k.rtx.drop (nr - k.va).toNat, e.body.wellFormed = true := fun e he => h.entries e (List.mem_of_mem_drop he)
  unfold Link.acked
  dsimp only
  split_ifs <;> exact { h with entries := rest }

/-- A link repeats its LINK-OPEN (R36). -/
theorem retriedOpen (h : k.Fits) (hs : k.state ≠ .down) : ({ k.retried with owedLink := { k.owedLink with opn := true } } : Link).Fits :=
  { h with openOwed := fun _ => h.started hs }

/-- A link repeats its LINK-CLOSE (R42). -/
theorem retriedClose (h : k.Fits) : ({ k.retried with owedLink := { k.owedLink with close := true } } : Link).Fits := { h with }

/-- A link repeats its poll (R67). -/
theorem retriedPoll (h : k.Fits) : k.retried.owePoll.Fits := { h with }

theorem touchIdle (h : k.Fits) : k.touchIdle.Fits := by rw [touchIdle_eq]; exact { h with }

theorem accepted (h : k.Fits) : k.accepted.Fits := by rw [accepted_eq]; exact { h with }

theorem outOfSequence (h : k.Fits) : k.outOfSequence.Fits := by
  unfold Link.outOfSequence; dsimp only; split <;> exact { h with }

theorem takeAnswerFlag (h : k.Fits) : k.takeAnswerFlag.Fits := by
  unfold Link.takeAnswerFlag; dsimp only; split_ifs <;> exact { h with }

theorem takeStatusFlags (h : k.Fits) (poll answer : Bool) : (k.takeStatusFlags poll answer).Fits := by
  have polled : k.takePollFlag.Fits := { h with }
  cases poll <;> cases answer
  · exact h
  · exact h.takeAnswerFlag
  · exact polled
  · exact polled.takeAnswerFlag

theorem takeResend (h : k.Fits) : k.takeResend.Fits := by unfold Link.takeResend; split_ifs <;> exact { h with }

/-- An answer handed to the answer list (R80). -/
theorem answer (h : k.Fits) {a : Answer} (ha : ∀ r, a.refuse = some r → Content.wellFormed (.ctl (.refuse r)) = true) :
    ({ k with answers := pushAnswer a k.answers } : Link).Fits := by
  refine { h with answers := fun b hb => ?_ }
  replace hb : b ∈ pushAnswer a k.answers := hb
  unfold pushAnswer at hb
  split at hb
  · obtain ⟨b', hb', rfl⟩ := List.mem_map.mp hb
    split
    · exact ha
    · exact h.answers b' hb'
  · rcases List.mem_append.mp hb with hb | hb
    · exact h.answers b hb
    · rw [List.mem_singleton.mp hb]; exact ha

end Link.Fits

/-! ## Line ports -/

namespace LinePort
variable {x : LinePort}

/-- From `x` to `y` a line port keeps its law, and the ranges of its frames. -/
structure Follows (x y : LinePort) : Prop where
  ok : x.Ok → y.Ok
  fits : x.Fits → y.Fits

theorem Follows.refl (x : LinePort) : x.Follows x := ⟨id, id⟩

theorem Follows.trans {x y z : LinePort} (h : x.Follows y) (h' : y.Follows z) : x.Follows z := ⟨h'.ok ∘ h.ok, h'.fits ∘ h.fits⟩

/-- A port at its state after device reset obeys every law, whatever the level of LRDYn. -/
theorem follows_default (x : LinePort) (v : Bool) : x.Follows { lrdy := v } :=
  ⟨fun _ => by constructor <;> simp, fun _ => ⟨by simp, by simp⟩⟩

/-- A receiver runs on an enabled port alone (R137). -/
theorem Ok.enabled (h : x.Ok) (hr : x.rx ≠ .stopped) : x.enabled = true := by
  by_contra off
  rw [h.disabled (by simpa using off)] at hr
  exact hr rfl

/-- A change of an enabled port that its law allows. -/
theorem on_disabled {y : LinePort} (on : y.enabled = true) : y.enabled = false → y = { lrdy := y.lrdy } := fun off => by
  rw [on] at off; cases off

/-- The law of a running port, by its receiver. -/
theorem Ok.receiver (h : x.Ok) (hr : x.rx ≠ .stopped) {rx : RxState} {filling : Option (List Byte)} {held : List Frame}
    (runs : rx ≠ .stopped) (fills : filling.isSome = true ↔ (rx = .body ∨ rx = .escape)) (length : ∀ b, filling = some b → b.length ≤ 1033)
    (buffers : held.length + (if filling.isSome then 1 else 0) ≤ 2) (good : ∀ f ∈ held, f.wellFormed = true) :
    ({ x with rx, filling, held } : LinePort).Ok :=
  { h with
    disabled := on_disabled (h.enabled hr)
    running := fun _ => ⟨runs, (h.running (h.enabled hr)).2⟩
    filling := fills
    length := length
    buffers := buffers
    held := good }

/-- A frame discarded, or none begun, leaves the buffers of the frames held. -/
theorem Ok.idle (h : x.Ok) (hr : x.rx ≠ .stopped) {rx : RxState} (hrx : rx = .hunt ∨ rx = .gap) :
    ({ x with rx, filling := none } : LinePort).Ok := by
  have buffers := h.buffers
  refine h.receiver hr (filling := none) (held := x.held) ?_ ?_ nofun (Nat.le_trans (Nat.add_le_add_left ?_ _) buffers) h.held
  · rcases hrx with e | e <;> simp [e]
  · rcases hrx with e | e <;> simp [e]
  · simp

/-- A receiver outside a body fills no buffer. -/
theorem Ok.none_filling (h : x.Ok) (hr : x.rx = .hunt ∨ x.rx = .gap) : x.filling = none := by
  have out : ¬ x.filling.isSome = true := by rw [h.filling]; rcases hr with e | e <;> simp [e]
  simpa using out

/-- A receiver in a body fills a buffer, and holds at most one frame besides (R143). -/
theorem Ok.some_filling (h : x.Ok) (hr : x.rx = .body ∨ x.rx = .escape) : ∃ b, x.filling = some b ∧ b.length ≤ 1033 ∧ x.held.length ≤ 1 := by
  obtain ⟨b, hb⟩ := Option.isSome_iff_exists.mp (h.filling.mpr hr)
  have buffers := h.buffers
  rw [hb] at buffers
  exact ⟨b, hb, h.length b hb, by simpa using buffers⟩

/-- A body being received goes on. -/
theorem Ok.fills (h : x.Ok) (hr : x.rx ≠ .stopped) {rx : RxState} (hrx : rx = .body ∨ rx = .escape) {b : List Byte} (hb : b.length ≤ 1033)
    (room : x.held.length ≤ 1) : ({ x with rx, filling := some b } : LinePort).Ok := by
  refine h.receiver hr (filling := some b) (held := x.held) ?_ (by simpa using hrx) ?_ (by simpa using room) h.held
  · rcases hrx with e | e <;> simp [e]
  · rintro _ ⟨⟩; exact hb

theorem Ok.store (h : x.Ok) (hr : x.rx = .body ∨ x.rx = .escape) (b : Byte) : (x.store b).1.Ok := by
  have runs : x.rx ≠ .stopped := by rcases hr with e | e <;> simp [e]
  obtain ⟨bs, filling, -, room⟩ := h.some_filling hr
  rw [store_filling filling]
  split
  · exact h.idle runs (.inl rfl)
  · exact h.fills runs (.inl rfl) (by rw [List.length_append, List.length_singleton]; omega) room

/-- A frame is held only after it has passed the checks (R144). -/
theorem wellFormed_of_good {b : List Byte} {f : Frame} (h : checkBody b = .good f) : f.wellFormed = true := by
  unfold checkBody at h
  split at h
  · cases h
  dsimp only at h
  split at h
  · cases h
  split at h <;> cases h
  exact (fields_of_readFields ‹_›).1

theorem Ok.endBody (h : x.Ok) (hr : x.rx = .body) : x.endBody.1.Ok := by
  have runs : x.rx ≠ .stopped := by simp [hr]
  obtain ⟨b, filling, -, room⟩ := h.some_filling (.inl hr)
  cases verdict : checkBody b with
  | good f =>
    rw [endBody_holds filling verdict]
    refine h.receiver runs (filling := none) nofun (by simp) nofun (by simpa using room) fun g hg => ?_
    rcases List.mem_append.mp hg with hg | hg
    · exact h.held g hg
    · rw [List.mem_singleton.mp hg]; exact wellFormed_of_good verdict
  | crcError => rw [endBody_discards filling (.inl ⟨verdict, rfl⟩)]; exact h.idle runs (.inr rfl)
  | formatError => rw [endBody_discards filling (.inr ⟨verdict, rfl⟩)]; exact h.idle runs (.inr rfl)

theorem Ok.startBody (h : x.Ok) (hr : x.rx = .gap) (b : Byte) : (x.startBody b).1.Ok := by
  have runs : x.rx ≠ .stopped := by simp [hr]
  have none := h.none_filling (.inr hr)
  unfold LinePort.startBody
  split
  · have e := h.idle runs (rx := .hunt) (.inl rfl)
    rw [← none] at e
    exact e
  · rename_i room
    have room : x.held.length ≤ 1 := Nat.le_of_lt_succ (Nat.lt_of_not_le room)
    split
    · exact h.fills runs (.inr rfl) (by simp) room
    · exact h.fills runs (.inl rfl) (by simp) room

theorem Ok.unescape (h : x.Ok) (hr : x.rx = .escape) (b : Byte) : (x.unescape b).1.Ok := by
  have runs : x.rx ≠ .stopped := by simp [hr]
  unfold LinePort.unescape
  split_ifs
  · exact h.store (.inr hr) _
  · exact h.store (.inr hr) _
  · exact h.idle runs (.inr rfl)
  · exact h.idle runs (.inl rfl)

/-- The receiver keeps its law, character by character (R142). -/
theorem Ok.receive (h : x.Ok) (c : LineChar) : (x.receive c).1.Ok := by
  cases hr : x.rx with
  | stopped =>
    have none : x.receive c = (x, none) := by cases x; cases hr; rfl
    rw [none]; exact h
  | hunt =>
    cases c with
    | framingError => rw [receive_framingError_idle (.inl hr)]; exact h
    | byte b =>
      rw [receive_hunt hr]
      dsimp only
      split
      · have e := h.idle (by simp [hr]) (rx := .gap) (.inr rfl)
        rw [← h.none_filling (.inl hr)] at e
        exact e
      · exact h
  | gap =>
    cases c with
    | framingError => rw [receive_framingError_idle (.inr hr)]; exact h
    | byte b =>
      rw [receive_gap hr]
      split
      · exact h
      · exact h.startBody hr b
  | body =>
    cases c with
    | framingError => rw [receive_framingError_body (.inl hr)]; exact h.idle (by simp [hr]) (.inl rfl)
    | byte b =>
      rw [receive_body hr]
      split_ifs
      · exact h.endBody hr
      · obtain ⟨bs, filling, length, room⟩ := h.some_filling (.inl hr)
        have e := h.fills (by simp [hr]) (rx := .escape) (.inr rfl) length room
        rw [← filling] at e
        exact e
      · exact h.store (.inl hr) b
  | escape =>
    cases c with
    | framingError => rw [receive_framingError_body (.inr hr)]; exact h.idle (by simp [hr]) (.inl rfl)
    | byte b => rw [receive_escape hr]; exact h.unescape hr b

/-- A character received adds to the frames held at most one, which has passed the checks (R144, R146). -/
theorem receive_held (x : LinePort) (c : LineChar) :
    ∃ q, (x.receive c).1.held = x.held ++ q ∧ ∀ f ∈ q, f.wellFormed = true := by
  have same {y : LinePort} (h : y.held = x.held) : ∃ q, y.held = x.held ++ q ∧ ∀ f ∈ q, f.wellFormed = true := ⟨[], by simp [h], nofun⟩
  have store (b : Byte) : (x.store b).1.held = x.held := by unfold LinePort.store; dsimp only; split <;> rfl
  cases hr : x.rx with
  | stopped =>
    have none : x.receive c = (x, none) := by cases x; cases hr; rfl
    rw [none]; exact same rfl
  | hunt =>
    cases c with
    | framingError => rw [receive_framingError_idle (.inl hr)]; exact same rfl
    | byte b => rw [receive_hunt hr]; exact same (by dsimp only; split <;> rfl)
  | gap =>
    cases c with
    | framingError => rw [receive_framingError_idle (.inr hr)]; exact same rfl
    | byte b =>
      rw [receive_gap hr]
      refine same ?_
      split
      · rfl
      · unfold LinePort.startBody; split_ifs <;> rfl
  | body =>
    cases c with
    | framingError => rw [receive_framingError_body (.inl hr)]; exact same rfl
    | byte b =>
      rw [receive_body hr]
      split_ifs
      · unfold LinePort.endBody
        split
        · exact ⟨[_], rfl, fun f hf => by rw [List.mem_singleton.mp hf]; exact wellFormed_of_good ‹_›⟩
        · exact same rfl
        · exact same rfl
      · exact same rfl
      · exact same (store b)
  | escape =>
    cases c with
    | framingError => rw [receive_framingError_body (.inr hr)]; exact same rfl
    | byte b =>
      rw [receive_escape hr]
      refine same ?_
      unfold LinePort.unescape
      split_ifs
      · exact store _
      · exact store _
      · rfl
      · rfl

theorem receive_follows (x : LinePort) (c : LineChar) : x.Follows (x.receive c).1 where
  ok h := h.receive c
  fits h := by
    obtain ⟨q, held, good⟩ := receive_held x c
    refine ⟨fun t ht => h.sending t ((receive_transmitter x c).2 ▸ ht), fun f hf => ?_⟩
    rw [held] at hf
    exact (List.mem_append.mp hf).elim (h.held f) (good f)

theorem rxWait_follows (on : x.enabled = true) (wait : Bool) : x.Follows { x with rxWait := wait } where
  ok h := { h with disabled := on_disabled on }
  fits h := { h with }

/-! ### The transmitter -/

/-- A transmit buffer that becomes free (R140, R141). -/
theorem free_follows (x : LinePort) : x.Follows { x with tx := none } where
  ok h := { h with disabled := fun off => by rw [h.disabled off], begun := nofun, cut := nofun }
  fits h := { h with sending := nofun }

/-- A frame handed to an enabled port (R73, R140). -/
theorem Ok.send (h : x.Ok) (on : x.enabled = true) (f : Frame) : ({ x with tx := some { frame := f } } : LinePort).Ok :=
  { h with
    disabled := on_disabled on
    begun := fun t e => by cases e; exact Nat.zero_le _
    cut := fun t n e hn => by cases e; cases hn }

theorem Ok.sendOn (h : x.Ok) (on : x.enabled = true) : x.sendOn.Ok := by
  have phase := h.phase
  obtain ⟨runs, rate, charRate⟩ := h.running on
  unfold LinePort.sendOn
  dsimp only
  split
  · exact { h with disabled := on_disabled on, phase := by dsimp only; omega }
  · generalize 1 + pace x.rate * (pace x.charRate - (100 - x.phase)) / pace x.charRate / 100 = n
    refine { h with
      disabled := on_disabled on, running := fun _ => ⟨runs, rate, rate⟩, begun := fun t e => ?_, cut := fun t m e hm => ?_
      phase := Nat.mod_lt _ (by decide) }
    · obtain ⟨t, -, rfl⟩ := Option.map_eq_some_iff.mp e
      exact min_le_right _ _
    · obtain ⟨t, ht, rfl⟩ := Option.map_eq_some_iff.mp e
      obtain ⟨sequenced, short, passed⟩ := h.cut t m ht hm
      exact ⟨sequenced, short, le_min (Nat.le_add_right_of_le passed) (Nat.le_trans passed (h.begun t ht))⟩

theorem tick_follows (x : LinePort) : x.Follows x.tick where
  ok h := by
    unfold LinePort.tick
    split
    · exact h.sendOn ‹_›
    · exact h
  fits h := by
    rw [tick_eq]
    refine ⟨fun t ht => ?_, h.held⟩
    replace ht : x.tick.tx = some t := ht
    unfold LinePort.tick LinePort.sendOn at ht
    dsimp only at ht
    split_ifs at ht
    · exact h.sending t ht
    · obtain ⟨old, sending, rfl⟩ := Option.map_eq_some_iff.mp ht
      exact h.sending old sending
    · exact h.sending t ht

theorem toldTeardown_follows (x : LinePort) : x.Follows x.toldTeardown := by
  rw [toldTeardown_eq]
  refine ⟨fun h => { h with
    disabled := fun off => by rw [h.disabled off]; rfl, begun := fun t e => ?_, cut := fun t n e hn => ?_ }, fun h => { h with
    sending := fun t e => ?_ }⟩
  all_goals obtain ⟨t, ht, rfl⟩ := Option.map_eq_some_iff.mp e
  · split
    · rename_i told
      rw [chars_cut rfl, List.length_append, List.length_take]
      dsimp only [List.length_singleton]
      omega
    · exact h.begun t ht
  · split at hn
    · rename_i told
      cases hn
      rw [if_pos told]
      exact ⟨told.1, told.2.2, le_rfl⟩
    · rename_i told
      rw [if_neg told]
      exact h.cut t n ht hn
  · have good := h.sending t ht
    split <;> exact good

/-! ### LRDYn, frames taken and LINK-START -/

theorem sampled_follows (x : LinePort) (v : Bool) : x.Follows (x.sampled v) where
  ok h := by
    refine { h with disabled := fun off => ?_ }
    replace off : x.enabled = false := off
    rw [sampled_disabled off, h.disabled off]
  fits h := { h with }

/-- The oldest held frame leaves its buffer (R146). -/
theorem taken_follows {f : Frame} {rest : List Frame} (hf : x.held = f :: rest) : x.Follows { x with held := rest } where
  ok h := by
    have buffers := h.buffers
    rw [hf, List.length_cons] at buffers
    have good : ∀ g ∈ rest, g.wellFormed = true := fun g hg => h.held g (hf ▸ List.mem_cons_of_mem _ hg)
    exact { h with
      disabled := fun off => by rw [h.disabled off] at hf; cases hf
      buffers := by dsimp only; omega
      held := good }
  fits h := ⟨h.sending, fun g hg => h.held g (hf ▸ List.mem_cons_of_mem _ hg)⟩

theorem start_follows (x : LinePort) (rate : Nat) : x.Follows (x.start rate) where
  ok h := by
    unfold LinePort.start
    split
    · rename_i on
      obtain ⟨runs, -, charRate⟩ := h.running on
      exact { h with disabled := on_disabled on, running := fun _ => ⟨runs, rfl, charRate⟩ }
    · constructor <;> simp
  fits h := by
    unfold LinePort.start
    split
    · exact { h with }
    · exact ⟨nofun, nofun⟩

end LinePort
end Sys2Proof.Machine
end

section
/-! SUPPORT. What each operation of the channel table and of a link keeps of the laws that speak of each part by itself: the ranges of the
records and the links that frames are built from (R167), and the law of the line ports. -/

namespace Sys2Proof.Machine

/-! ## What leaves the line ports -/

section Lines
variable (s : State) (i : ChanId)

theorem setOwed_lines (o : Owed) : (s.setOwed i o).lines = s.lines := rfl
theorem postTo_lines (n : Slot) (e : Event) : (s.postTo n e).lines = s.lines := rfl
theorem freeTxMsgs_lines (ms : List TxMsg) : (s.freeTxMsgs ms).lines = s.lines := rfl
theorem freeRxMsgs_lines (ms : List RxMsg) : (s.freeRxMsgs ms).lines = s.lines := rfl
theorem releaseCredit_lines : (s.releaseCredit i).lines = s.lines := rfl
theorem clearNotify_lines : (s.clearNotify i).lines = s.lines := rfl

theorem endChan_lines (r : Reason) : (s.endChan i r).lines = s.lines := by
  simp only [State.endChan, serve_lines, postTo_lines, lines_setChan, clearNotify_lines, releaseCredit_lines, setOwed_lines, freeTxMsgs_lines]

theorem abortChan_lines : (s.abortChan i).lines = s.lines := by
  simp only [State.abortChan, serve_lines, lines_setChan, clearNotify_lines, releaseCredit_lines, setOwed_lines, freeTxMsgs_lines,
    freeRxMsgs_lines]

end Lines

/-- From `s` to `u` every channel record and every link keeps the ranges of what frames are built from, and every line port follows. -/
structure KeepsParts (s u : State) : Prop where
  chan : ∀ i, (s.chan i).Fits → (u.chan i).Fits
  link : ∀ l, (s.link l).Fits → (u.link l).Fits
  line : ∀ l, (s.line l).Follows (u.line l)

namespace KeepsParts
variable {s u v : State} {i : ChanId} {l : LinkId}

theorem refl (s : State) : KeepsParts s s := ⟨fun _ => id, fun _ => id, fun _ => .refl _⟩

theorem trans (h : KeepsParts s u) (h' : KeepsParts u v) : KeepsParts s v :=
  ⟨fun i => h'.chan i ∘ h.chan i, fun l => h'.link l ∘ h.link l, fun l => (h.line l).trans (h'.line l)⟩

/-! ## One part -/

theorem setPort (h : KeepsParts s u) (p : Slot) (x : HostPort) : KeepsParts s (u.setPort p x) := ⟨h.chan, h.link, h.line⟩

theorem setPool (h : KeepsParts s u) (x : Pool) : KeepsParts s (u.setPool x) := ⟨h.chan, h.link, h.line⟩

theorem setChan (h : KeepsParts s u) {c : Chan} (hc : (u.chan i).Fits → c.Fits) : KeepsParts s (u.setChan i c) := by
  refine ⟨fun j hj => ?_, h.link, h.line⟩
  rw [chan_setChan_ite]
  split
  · rename_i e; subst e; exact hc (h.chan j hj)
  · exact h.chan j hj

theorem setLink (h : KeepsParts s u) {k : Link} (hk : (u.link l).Fits → k.Fits) : KeepsParts s (u.setLink l k) := by
  refine ⟨h.chan, fun m hm => ?_, h.line⟩
  rw [link_setLink_ite]
  split
  · rename_i e; subst e; exact hk (h.link m hm)
  · exact h.link m hm

theorem setLine (h : KeepsParts s u) {x : LinePort} (hx : (u.line l).Follows x) : KeepsParts s (u.setLine l x) := by
  refine ⟨h.chan, h.link, fun m => ?_⟩
  rw [line_setLine_ite]
  split
  · rename_i e; subst e; exact (h.line m).trans hx
  · exact h.line m

theorem postAll (h : KeepsParts s u) (e : Event) : KeepsParts s (u.postAll e) := ⟨h.chan, h.link, h.line⟩

theorem postOthers (h : KeepsParts s u) (p : Slot) (e : Event) : KeepsParts s (u.postOthers p e) :=
  h.trans ⟨fun i => by rw [postOthers_chan]; exact id, fun l => by rw [postOthers_link]; exact id,
    fun l => by rw [postOthers_line]; exact .refl _⟩

/-- A counter of a link raised (R49). -/
theorem count (h : KeepsParts s u) (l : LinkId) (f : Counters → Counters) : KeepsParts s (u.count l f) :=
  h.setLink fun k => { k with }

/-! ## The channel table -/

/-- A change of one record, which changes no link but for what the channel table keeps in it, and no line port. -/
theorem of_becomes {c : Chan} (b : Becomes s u i c) (hc : (s.chan i).Fits → c.Fits) (core : SameCore s u) (lines : u.lines = s.lines) :
    KeepsParts s u where
  chan j hj := by
    by_cases e : j = i
    · subst e; rw [b.self]; exact hc hj
    · rw [b.others j e]; exact hj
  link l k := k.of_core (core l)
  line l := by rw [show u.line l = s.line l by simp only [State.line, lines]]; exact .refl _

/-- Serving the credit-owed list (R101). -/
theorem served (s : State) : KeepsParts s s.serve where
  chan i h := h.granted ((serve_served s).chans i)
  link l k := k.of_core ((SameCore.refl s).serve l)
  line l := by rw [serve_line]; exact .refl _

theorem serve (h : KeepsParts s u) : KeepsParts s u.serve := h.trans (served u)

/-- A change of one record before the credit-owed list is served. -/
theorem of_served {c : Chan} (b : Becomes s u i c) (hc : (s.chan i).Fits → c.Fits) (core : SameCore s u.serve)
    (lines : u.serve.lines = s.lines) : KeepsParts s u.serve where
  chan j hj := by
    refine Chan.Fits.granted ?_ ((serve_served u).chans j)
    by_cases e : j = i
    · subst e; rw [b.self]; exact hc hj
    · rw [b.others j e]; exact hj
  link l k := k.of_core (core l)
  line l := by rw [show u.serve.line l = s.line l by simp only [State.line, lines]]; exact .refl _

section Records
variable (h : KeepsParts s u)
include h

/-- A record in use ends (R121). -/
theorem endChan (r : Reason) (hs : (u.chan i).state ≠ .free) : KeepsParts s (u.endChan i r) := by
  obtain ⟨w, e, b⟩ := endChan_becomes u i r
  have core := (SameCore.refl u).endChan (i := i) r
  have lines := endChan_lines u i r
  rw [e] at core lines ⊢
  exact h.trans (of_served b (fun c => c.used hs nofun rfl) core lines)

/-- A record in use is aborted (R122). -/
theorem abortChan (hs : (u.chan i).state ≠ .free) : KeepsParts s (u.abortChan i) := by
  obtain ⟨w, e, b⟩ := abortChan_becomes u i
  have core := (SameCore.refl u).abortChan (i := i)
  have lines := abortChan_lines u i
  rw [e] at core lines ⊢
  exact h.trans (of_served b (fun c => c.used hs nofun rfl) core lines)

theorem freeChan : KeepsParts s (u.freeChan i) :=
  h.trans (of_becomes (freeChan_becomes u i) (fun _ => .default) (SameCore.refl u).freeChan rfl)

theorem freeAborted : KeepsParts s (u.freeAborted i) := h.freeChan.setPort _ _

theorem releaseCredit : KeepsParts s (u.releaseCredit i) := by
  refine .setPool (h.setChan fun c => ?_) _
  exact ⟨c.queued, c.window⟩

/-- A record given up (R127, R135). -/
theorem giveUp : KeepsParts s (u.giveUp i) := by
  unfold State.giveUp
  dsimp only
  split <;> rename_i hs
  · exact h.freeChan
  · exact .serve (.freeChan (h.setPool _))
  · split
    · exact .serve h.releaseCredit.freeChan
    · exact h.abortChan (by simp [hs])
  · exact h.abortChan (by simp [hs])
  · exact h.abortChan (by simp [hs])
  · exact h
  · exact h

/-- A record enters OPEN (R11). -/
theorem enterOpen (w : Nat) (hs : (u.chan i).state ≠ .free) : KeepsParts s (u.enterOpen i w) :=
  h.trans (of_becomes (enterOpen_becomes u i w) (fun c => c.used hs nofun rfl) ((SameCore.refl u).enterOpen w) rfl)

theorem acceptOpen (src : ChanId) (w : Nat) (hs : (u.chan i).state ≠ .free) : KeepsParts s (u.acceptOpen i src w) :=
  h.trans (of_becomes (acceptOpen_becomes u i src w) (fun c => c.used hs nofun rfl) ((SameCore.refl u).acceptOpen src w) rfl)

theorem crossOpen (w : Nat) (hs : (u.chan i).state ≠ .free) : KeepsParts s (u.crossOpen i w) := by
  refine h.trans (of_becomes (crossOpen_becomes u i w) (fun c => c.used hs nofun rfl) ((SameCore.refl u).crossOpen w) ?_)
  unfold State.crossOpen
  dsimp only
  split <;> rfl

theorem closeRecord (hs : (u.chan i).state ≠ .free) : KeepsParts s (u.closeRecord i) := by
  refine h.trans (of_becomes (closeRecord_becomes u i) (fun c => c.used hs (fun _ => id) rfl) (SameCore.refl u).closeRecord ?_)
  unfold State.closeRecord
  dsimp only
  split <;> rfl

/-- A record taken by CH-OPEN with a window in its range (R8). -/
theorem openRecord (p : Slot) (l : LinkId) {b : TakeBody} (hb : 1 ≤ b.rxWindow ∧ b.rxWindow ≤ 64) :
    KeepsParts s (u.openRecord i p l b) := by
  have taken := (h.setChan (i := i) (c := openingRecord p l b) fun _ => ⟨nofun, fun _ => hb⟩).setPool (u.pool.reserve b.rxWindow)
  refine taken.trans (of_becomes (.setOwed _ i { opn := true }) (fun c => c.used ?_ (fun _ => id) rfl) (.setOwed (.refl _) _) rfl)
  simp [openingRecord]

/-- A grant to an OPEN record (R100). -/
theorem grant : KeepsParts s (u.grant i) := by
  refine h.trans ?_
  unfold State.grant
  dsimp only
  split
  · exact .refl u
  rename_i opened
  have raised (g : Nat) : KeepsParts u (u.raiseGrant i g) := by
    obtain ⟨records, -⟩ := raiseGrant_spec u i g fun _ => not_not.mp opened
    refine ⟨fun j c => c.granted (records j), fun l k => k.of_core ((SameCore.refl u).raiseGrant g l), fun l => ?_⟩
    rw [show (u.raiseGrant i g).line l = u.line l by simp only [State.line, (raiseGrant_frame u i g).2.1]]
    exact .refl _
  split
  · exact (raised _).setPool _
  · exact raised _

/-- A record torn down (R133). -/
theorem tearRecord (r : Reason) : KeepsParts s (u.tearRecord i r) := by
  unfold State.tearRecord
  split <;> rename_i hs
  · exact h.endChan r (by simp [hs])
  · exact h.endChan r (by simp [hs])
  · exact h.endChan r (by simp [hs])
  · exact h.freeAborted
  all_goals exact h

theorem endSessionRecords (p : Slot) : KeepsParts s (u.endSessionRecords p) := by
  refine List.foldlRecOn _ _ h fun w hw i _ => ?_
  split
  · exact hw.giveUp
  · exact hw

/-- A teardown: the records of the link, the link record, and the line port (R46, R133, R141). -/
theorem teardown (l : LinkId) (r : Reason) : KeepsParts s (u.teardown l r) := by
  have records : KeepsParts s (u.tearChannels l r) := by
    refine List.foldlRecOn _ _ (h.setPool _) fun w hw i _ => ?_
    split
    · exact hw.tearRecord r
    · exact hw
  unfold State.teardown
  generalize u.tearChannels l r = t at records
  exact .setLine (.serve (.setLink (.setPool records _) fun k => k.torn)) (LinePort.toldTeardown_follows _)

/-! ## Links that change their state -/

/-- A link that had been started falls, or falls to DOWN (R31, R42, R44). -/
theorem fell {st : LinkState} (hs : st = .down ∨ (u.link l).state ≠ .down) (r : Reason) {o : OwedLink}
    (opn : o.opn = true → (u.link l).owedLink.opn = true) (accept : o.accept = true → (u.link l).owedLink.accept = true) :
    KeepsParts s (u.fell l st r o) :=
  .postAll (h.setLink fun k => k.fell hs r opn accept) _

theorem enterDown (r : Reason) : KeepsParts s (u.enterDown l r) := by
  rw [enterDown_eq]; exact h.fell (.inl rfl) r id id

theorem completeStop (r : Reason) : KeepsParts s (u.completeStop l r) := by
  rw [completeStop_eq]; exact h.fell (.inl rfl) r id id

theorem enterFailed (r : Reason) (hs : (u.link l).state ≠ .down) : KeepsParts s (u.enterFailed l r) := by
  rw [enterFailed_eq]; exact h.fell (.inr hs) r nofun id

/-- A link that is UP is torn down and fails (R43, R67). -/
theorem torn_enterFailed (r r' : Reason) (hs : (u.link l).state ≠ .down) : KeepsParts s ((u.teardown l r).enterFailed l r') := by
  refine (h.teardown l r).enterFailed r' ?_
  rw [(kept_of_core (teardown_link u l r)).1]
  exact hs

/-- A link that had been started enters UP with an epoch and a window in their ranges (R39). -/
theorem establish {peer : Byte} (hp : peer ≠ 0#8) {window : Nat} (hw : 1 ≤ window) (hs : (u.link l).state ≠ .down) :
    KeepsParts s (u.establish l peer (min (u.link l).par.windowOffer window)) := by
  rw [establish_eq]
  exact .postAll (h.setLink fun k => k.rose hs hp hw rfl) _

/-- A protocol reset (R45). -/
theorem protocolReset : KeepsParts s (u.protocolReset l) := by
  have torn := h.teardown l .protocolError
  have epoch := teardown_ownEpoch u l .protocolError
  have owed := teardown_owedLink u l .protocolError
  rw [protocolReset_eq, ← epoch, ← owed]
  generalize u.teardown l .protocolError = t at torn
  refine .postAll (torn.setLink fun k => ?_) _
  have starting := k.epoch.opening (nextEpoch_ne_zero _) .starting
  exact { starting with }

/-! ## Acknowledgement and sequence -/

theorem idled (l : LinkId) : KeepsParts s (u.setLink l (u.link l).touchIdle) := h.setLink fun k => k.touchIdle

theorem acknowledge (nr : Seq) : KeepsParts s (u.acknowledge l nr) := by
  unfold State.acknowledge
  dsimp only
  split
  · exact h
  · refine .serve (List.foldlRecOn _ _ (.setLink (.setPool h _) fun k => k.acked nr) fun w hw m _ => ?_)
    split
    · exact hw.setPort _ _
    · exact hw

/-- A frame that carries nr (R55), by what it does in UP after a valid nr. -/
theorem withNr {nr : Seq} {act : State → State} (ha : ∀ w, KeepsParts s w → KeepsParts s (act w)) : KeepsParts s (u.withNr l nr act) := by
  unfold State.withNr
  dsimp only
  split
  · exact h
  split
  · exact ha _ ((h.idled l).acknowledge nr)
  · exact (h.idled l).protocolReset

theorem takeSequenced {ns nr : Seq} {deliver : State → State} (hd : ∀ w, KeepsParts s w → KeepsParts s (deliver w)) :
    KeepsParts s (u.takeSequenced l ns nr deliver) := by
  refine h.withNr fun w hw => ?_
  dsimp only
  split
  · exact hd _ (hw.setLink fun k => k.accepted)
  · exact hw.setLink fun k => k.outOfSequence

/-! ## Frames handed to the channel table -/

theorem stray (l : LinkId) : KeepsParts s (u.stray l) := h.count l _

/-- A CHAN-OPEN refused with one of the reasons of a CHAN-REFUSE (R12). -/
theorem refuseOpen (l : LinkId) (dst src : ChanId) {r : Reason} (hr : Content.wellFormed (.ctl (.refuse r)) = true) :
    KeepsParts s (u.refuseOpen l dst src r) :=
  h.setLink fun k => k.answer fun r' e => by cases e; exact hr

theorem deliverData (dst src : ChanId) (payload : List Byte) : KeepsParts s (u.deliverData l dst src payload) := by
  unfold State.deliverData
  dsimp only
  split
  · rename_i hc
    have inUse : (u.chan dst).state ≠ .free := Chan.Flows.ne hc.2
    split
    · unfold State.place
      dsimp only
      split
      · refine .setPort (.setChan (h.setPool _) fun c => ?_) _ _
        exact ⟨c.queued, c.window⟩
      · refine .setChan (h.setPool _) fun c => ?_
        exact ⟨c.queued, c.window⟩
    · exact .setPort ((h.count l _).abortChan inUse) _ _
  · exact h.stray l

theorem deliverOpen (dst src : ChanId) (w : Nat) : KeepsParts s (u.deliverOpen l dst src w) := by
  unfold State.deliverOpen
  dsimp only
  split <;> rename_i hs
  · exact (h.refuseOpen l dst src rfl).stray l
  · split
    · split
      · exact h.acceptOpen src w (by simp [hs])
      · refine .refuseOpen (h.setChan fun c => ?_) l dst src (r := .noBuffer) rfl
        exact ⟨c.queued, c.window⟩
    · exact (h.refuseOpen l dst src rfl).stray l
  · split
    · exact h.crossOpen w (by simp [hs])
    · exact (h.refuseOpen l dst src rfl).stray l
  all_goals exact (h.refuseOpen l dst src rfl).stray l

theorem deliverAccept (dst src : ChanId) (w : Nat) : KeepsParts s (u.deliverAccept l dst src w) := by
  unfold State.deliverAccept
  dsimp only
  split
  · rename_i hc
    exact h.enterOpen w (by simp [hc.2.1])
  · exact h.stray l

theorem deliverRefuse (dst src : ChanId) (r : Reason) : KeepsParts s (u.deliverRefuse l dst src r) := by
  unfold State.deliverRefuse
  dsimp only
  split
  · rename_i hc
    exact h.endChan r (by simp [hc.2.1])
  split
  · exact h.freeAborted
  · exact h.stray l

theorem deliverClose (dst src : ChanId) (abort : Bool) : KeepsParts s (u.deliverClose l dst src abort) := by
  refine KeepsParts.setLink (u := u.closeEffect l dst src abort) ?_ fun k => k.answer nofun
  unfold State.closeEffect
  dsimp only
  split
  · split <;> rename_i hs
    · exact h.endChan _ (by simp [hs])
    · exact h.endChan _ (by simp [hs])
    · split
      · exact h
      · exact h.endChan _ (by simp [hs])
    · split
      · exact h
      · exact h.freeAborted
    all_goals exact h.stray l
  · exact h.stray l

theorem deliverClosed (dst src : ChanId) : KeepsParts s (u.deliverClosed l dst src) := by
  unfold State.deliverClosed
  dsimp only
  split
  · split <;> rename_i hs
    · exact h.endChan _ (by simp [hs])
    · exact h.freeAborted
    all_goals exact h.stray l
  · exact h.stray l

theorem deliverCredit (dst src : ChanId) (limit : Credit) : KeepsParts s (u.deliverCredit l dst src limit) := by
  unfold State.deliverCredit
  dsimp only
  split
  · split
    · refine h.setChan fun c => ?_
      exact ⟨c.queued, c.window⟩
    · exact h
  · exact h.stray l

/-! ## Link frames -/

/-- A duplicate LINK-OPEN, or a peer restart (R40). -/
theorem openInUp {sender : Byte} (hp : sender ≠ 0#8) {window : Nat} (hw : 1 ≤ window) (hs : (u.link l).state = .up) :
    KeepsParts s (u.openInUp l sender window) := by
  by_cases same : (u.link l).peerEpoch = some sender
  · have duplicate : u.openInUp l sender window = u.setLink l (u.link l).touchIdle.oweAccept := if_pos same
    rw [duplicate, touchIdle_eq]
    refine h.setLink fun k => Link.Fits.oweAccept { k with } ?_ ?_
    · simp [Link.idled, hs]
    · simp [Link.idled, same]
  · have torn := h.teardown l .peerRestart
    obtain ⟨state, -, par, -⟩ := kept_of_core (teardown_link u l .peerRestart)
    rw [openInUp_restarts window same, ← par]
    generalize u.teardown l .peerRestart = t at torn state
    refine .postAll (torn.setLink fun k => ?_) _
    have rose := k.rose (by simp [state, hs]) hp hw (o := { (u.link l).owedLink with accept := true, opn := false }) rfl
    exact { rose with }

theorem takeLinkOpen {sender : Byte} (hp : sender ≠ 0#8) {window : Nat} (hw : 1 ≤ window) : KeepsParts s (u.takeLinkOpen l sender window) := by
  have risen (hs : (u.link l).state = .listening ∨ (u.link l).state = .starting) : KeepsParts s (u.takeLinkOpen l sender window) := by
    rw [takeLinkOpen_rises sender window hs]
    exact .postAll (h.setLink fun k => k.rose (by rcases hs with e | e <;> simp [e]) hp hw rfl) _
  cases hs : (u.link l).state with
  | listening => exact risen (.inl hs)
  | starting => exact risen (.inr hs)
  | up => simp only [State.takeLinkOpen, hs]; exact h.openInUp hp hw hs
  | down | stopping | failed => simp only [State.takeLinkOpen, hs]; exact h

theorem takeLinkAccept (echoed : Byte) {sender : Byte} (hp : sender ≠ 0#8) {window : Nat} (hw : 1 ≤ window) :
    KeepsParts s (u.takeLinkAccept l echoed sender window) := by
  unfold State.takeLinkAccept
  dsimp only
  split <;> rename_i hs
  · split
    · exact h.establish hp hw (by simp [hs])
    · exact h
  · exact h.idled l
  all_goals exact h

theorem oweClosed (l : LinkId) : KeepsParts s (u.setLink l (u.link l).oweClosed) := h.setLink fun k => { k with }

theorem takeLinkClose : KeepsParts s (u.takeLinkClose l) := by
  unfold State.takeLinkClose
  split
  · exact ((h.teardown l .peerStopped).oweClosed l).enterDown _
  · exact (h.oweClosed l).completeStop _
  all_goals exact h.oweClosed l

theorem takeLinkClosed : KeepsParts s (u.takeLinkClosed l) := by
  unfold State.takeLinkClosed
  split
  · exact h.completeStop _
  · exact h.idled l
  all_goals exact h

/-! ## Line-ready and expiries -/

theorem lineLost (l : LinkId) : KeepsParts s (u.lineLost l) := by
  unfold State.lineLost
  split <;> rename_i hs
  · exact h.enterFailed _ (by simp [hs])
  · exact h.torn_enterFailed _ _ (by simp [hs])
  · exact h.completeStop _
  all_goals exact h

theorem respExpired (l : LinkId) : KeepsParts s (u.respExpired l) := by
  unfold State.respExpired
  dsimp only
  split <;> rename_i hs
  · split
    · exact h.enterFailed _ (by simp [hs])
    · exact h.setLink fun k => k.retriedOpen (by simp [hs])
  · split
    · exact h.completeStop _
    · exact h.setLink fun k => k.retriedClose
  · split
    · exact h.torn_enterFailed _ _ (by simp [hs])
    · exact h.setLink fun k => k.retriedPoll
  all_goals exact h

/-! ## Commands of a link, and sessions -/

theorem stopLink (l : LinkId) : KeepsParts s (u.stopLink l) := by
  unfold State.stopLink
  split <;> rename_i hs
  · exact h.enterDown _
  · exact h.enterDown _
  · exact .enterDown (h.setLink fun k => { k.owing (o := { (u.link l).owedLink with opn := false }) nofun id with }) _
  · have torn := h.teardown l .stopped
    have state := (kept_of_core (teardown_link u l .stopped)).1
    generalize u.teardown l .stopped = t at torn state
    exact torn.setLink fun k => { k with started := fun _ => k.started (by simp [state, hs]) }
  all_goals exact h

theorem startLink (p : Slot) (l : LinkId) {q : Params} (hq : q.inRange = true) : KeepsParts s (u.startLink p l q) :=
  .setLine (h.setLink fun k => k.startedWith p hq) (LinePort.start_follows _ _)

/-- A controller role given up (R34). -/
theorem vacate (p : Slot) (l : LinkId) : KeepsParts s (u.vacate p l) := by
  have vacant : KeepsParts s (u.setLink l { u.link l with controller := none }) := h.setLink fun k => { k with }
  unfold State.vacate
  dsimp only
  split
  · split
    · exact vacant
    · exact vacant.postOthers _ _
  · exact h

theorem endSession (p : Slot) : KeepsParts s (u.endSession p) := .setPort (((h.endSessionRecords p).vacate p 0).vacate p 1) _ _

theorem freeStaged (p : Slot) (st : Staging) : KeepsParts s (u.freeStaged p st) := by
  cases st with
  | granted n => exact .serve (h.setPool _)
  | none | refused _ => exact h

end Records
end KeepsParts
end Sys2Proof.Machine
end

section
/-! SUPPORT. What the arbiter sends is built from records in their ranges (R145, R167), so that its takings keep the law of the line ports
and the law of the frames. -/

namespace Sys2Proof.Machine

/-! ## The frames that are built -/

theorem Content.wellFormed_content (b : EntryBody) : b.content.wellFormed = b.wellFormed := by cases b <;> rfl

theorem Entry.wellFormed_frame (e : Entry) (nr : Seq) : (e.frame nr).wellFormed = e.body.wellFormed := by
  obtain ⟨ns, i, j, m | c⟩ := e <;> rfl

/-- A link frame that is owed is built in range (R29, R39, R47). -/
theorem Link.Fits.linkFrame {k : Link} (h : k.Fits) {f : LinkFrameKind} (opn : f = .opn → k.owedLink.opn = true)
    (accept : f = .accept → k.owedLink.accept = true) : (k.linkFrame f).wellFormed = true := by
  cases f with
  | closed | close => rfl
  | opn =>
    have epoch := h.openOwed (opn rfl)
    have window := h.window
    simp only [Link.linkFrame, Frame.wellFormed, Bool.and_eq_true, bne_iff_ne, decide_eq_true_eq]
    exact ⟨epoch, window⟩
  | accept =>
    obtain ⟨epoch, known, fixed⟩ := h.acceptOwed (accept rfl)
    obtain ⟨e, he⟩ := Option.isSome_iff_exists.mp known
    obtain ⟨a, ha⟩ := Option.isSome_iff_exists.mp fixed
    have peer := h.peer e he
    have agreed := h.agreed a ha
    simp only [Link.linkFrame, Frame.wellFormed, he, ha, Option.getD_some, Bool.and_eq_true, bne_iff_ne, decide_eq_true_eq]
    exact ⟨⟨peer, epoch⟩, agreed⟩

/-- The snapshot of a record whose window is in range (R23). -/
theorem Chan.Fits.snapshot {c : Chan} (h : c.Fits) {m : Member} (owes : c.owed ≠ {}) : Content.wellFormed (.ctl (c.snapshot m)) = true := by
  have window := h.window (.inr owes)
  cases m with
  | opn | accept => exact decide_eq_true window
  | credit | close => rfl

/-! ## The law of frames, part by part -/

namespace State.FramesOk
variable {s u : State}

theorem chan (h : s.FramesOk) (i : ChanId) : (s.chan i).Fits := (framesOk_iff.mp h).1 i

theorem link (h : s.FramesOk) (l : LinkId) : (s.link l).Fits := (framesOk_iff.mp h).2.1 l

theorem keeps (h : s.FramesOk) (k : KeepsParts s u) : u.FramesOk :=
  framesOk_iff.mpr ⟨fun i => k.chan i (h.chan i), fun l => k.link l (h.link l), fun l => (k.line l).fits ((framesOk_iff.mp h).2.2 l)⟩

theorem setChan (h : s.FramesOk) {i : ChanId} {c : Chan} (hc : c.Fits) : (s.setChan i c).FramesOk :=
  h.keeps ((KeepsParts.refl s).setChan fun _ => hc)

theorem setLink (h : s.FramesOk) {l : LinkId} {k : Link} (hk : k.Fits) : (s.setLink l k).FramesOk :=
  h.keeps ((KeepsParts.refl s).setLink fun _ => hk)

theorem sends (h : s.FramesOk) {l : LinkId} {f : Frame} (hf : f.wellFormed = true) : (s.sending l f).FramesOk := by
  obtain ⟨chan, link, line⟩ := framesOk_iff.mp h
  refine framesOk_iff.mpr ⟨chan, link, fun m => ?_⟩
  unfold State.sending
  rw [line_setLine_ite]
  split
  · exact ⟨fun t ht => by cases ht; exact hf, (line l).held⟩
  · exact line m

end State.FramesOk

/-! ## Takings -/

/-- From `s`, `v` hands a frame to port `l`, which changes no line port besides; frames built in range go on being so. -/
def State.SendsOn (s : State) (l : LinkId) (v : State) : Prop :=
  ∃ (u : State) (f : Frame), v = u.sending l f ∧ u.lines = s.lines ∧ (s.FramesOk → u.FramesOk ∧ f.wellFormed = true)

namespace State.SendsOn
variable {s u v : State} {l : LinkId}

/-- A frame handed with a change of the link record. -/
theorem hand {k : Link} {f : Frame} (h : s.FramesOk → k.Fits ∧ f.wellFormed = true) : s.SendsOn l ((s.setLink l k).hand l f) :=
  ⟨s.setLink l k, f, rfl, rfl, fun ok => ⟨ok.setLink (h ok).1, (h ok).2⟩⟩

/-- A new sequenced frame taken, after a change of the state that is no change of the line ports. -/
theorem takeNew {b : EntryBody} (lines : u.lines = s.lines) (h : s.FramesOk → u.FramesOk ∧ b.wellFormed = true) (dst src : ChanId) :
    s.SendsOn l (u.takeNew l dst src b) := by
  refine ⟨_, _, takeNew_eq .., lines, fun ok => ?_⟩
  obtain ⟨changed, good⟩ := h ok
  exact ⟨changed.setLink ((changed.link l).sent good dst src), (Content.wellFormed_content b).trans good⟩

theorem setChan (h : s.SendsOn l v) {i : ChanId} {c : Chan} (hc : s.FramesOk → c.Fits) : s.SendsOn l (v.setChan i c) := by
  obtain ⟨u, f, rfl, same, ok⟩ := h
  exact ⟨u.setChan i c, f, rfl, same, fun hs => ⟨(ok hs).1.setChan (hc hs), (ok hs).2⟩⟩

theorem setLink (h : s.SendsOn l v) {m : LinkId} {k : Link} (hk : (v.link m).Fits → k.Fits) : s.SendsOn l (v.setLink m k) := by
  obtain ⟨u, f, rfl, same, ok⟩ := h
  exact ⟨u.setLink m k, f, rfl, same, fun hs => ⟨(ok hs).1.setLink (hk ((ok hs).1.link m)), (ok hs).2⟩⟩

theorem takeData {i : ChanId} {m : TxMsg} (h : (s.chan i).mayData l m) : s.SendsOn l (s.takeData l i m) := by
  obtain ⟨-, flows, head, -⟩ := h
  have inUse : (s.chan i).state ≠ .free := Chan.Flows.ne flows
  have taken := takeNew (l := l) (b := .data m) (u := s) rfl (fun ok => ⟨ok, (ok.chan i).queued m (List.mem_of_mem_head? head)⟩)
    ((s.chan i).remote.getD 0) i
  have served := (taken.setLink (k := ((s.takeNew l ((s.chan i).remote.getD 0) i (.data m)).link l).served (s.chan i).cls i) fun k => by
    cases (s.chan i).cls <;> exact { k with }).setChan (i := i)
    (c := { s.chan i with sendQ := (s.chan i).sendQ.tail, txUsed := (s.chan i).txUsed + BitVec.ofNat 8 m.blocks })
    fun ok => (ok.chan i).used inUse (fun _ => List.mem_of_mem_tail) rfl
  unfold State.takeData
  dsimp only
  split
  · rw [setOwed_eq, chan_setChan]
    refine .setLink (served.setChan fun ok => ?_) fun k => ?_
    · exact (ok.chan i).used inUse (fun _ => List.mem_of_mem_tail) rfl
    · exact { k with }
  · exact served

end State.SendsOn

/-- What can be taken is sent within the checks of R145. -/
theorem take_sends {s : State} {l : LinkId} {t : Taking} (h : s.Takeable l t) : s.SendsOn l (s.take l t) := by
  cases t with
  | link f =>
    refine .hand fun ok => ⟨(ok.link l).owing ?_ ?_, (ok.link l).linkFrame ?_ ?_⟩
    · cases f <;> simp [OwedLink.remove]
    · cases f <;> simp [OwedLink.remove]
    · rintro rfl; exact h
    · rintro rfl; exact h
  | statusFrame => exact .hand fun ok => ⟨{ ok.link l with }, rfl⟩
  | resend => exact .hand fun ok => ⟨{ ok.link l with }, rfl⟩
  | plainStatus => exact .hand fun ok => ⟨{ ok.link l with }, rfl⟩
  | retransmit e =>
    obtain ⟨-, -, -, listed, -⟩ := h
    exact .hand fun ok => ⟨{ ok.link l with }, (Entry.wellFormed_frame e _).trans ((ok.link l).entries e listed)⟩
  | answer a =>
    obtain ⟨-, -, head⟩ := h
    have listed : a ∈ (s.link l).answers := List.mem_of_mem_head? head
    refine .takeNew (s := s) (u := s.setLink l { s.link l with answers := (s.link l).answers.tail }) rfl (fun ok => ⟨ok.setLink ?_, ?_⟩) _ _
    · exact { ok.link l with answers := fun b hb => (ok.link l).answers b (List.mem_of_mem_tail hb) }
    · split
      · exact (ok.link l).answers a listed _ ‹_›
      · rfl
  | ready i m =>
    obtain ⟨-, -, -, first⟩ := h
    have owes := Chan.ne_of_owesFirst first
    have taken := State.SendsOn.takeNew (l := l) (b := .ctl ((s.chan i).snapshot m)) (u := s) rfl
      (fun ok => ⟨ok, (ok.chan i).snapshot owes⟩) ((s.chan i).remote.getD 0) i
    refine .setLink (taken.setChan fun ok => ?_) fun k => ?_
    · exact ⟨(ok.chan i).queued, fun _ => (ok.chan i).window (.inr owes)⟩
    · exact { k with }
  | data i m => exact .takeData h.2.2

/-! ## The arbiter -/

/-- What every taking keeps, the arbiter keeps (R73). -/
theorem arbitrate_keeps {P : State → Prop} {s : State} (take : ∀ l v, (s.line l).enabled = true → s.SendsOn l v → P s → P v) (l : LinkId)
    (h : P s) : P (s.arbitrate l) := by
  unfold State.arbitrate
  dsimp only
  split
  · rename_i idle
    split
    · exact take l _ (Bool.and_eq_true_iff.mp idle).1 (take_sends (choose_takeable ‹_›)) h
    · exact h
  · exact h

theorem settle_keeps {P : State → Prop} (take : ∀ s l v, (s.line l).enabled = true → s.SendsOn l v → P s → P v) {s : State} (h : P s) :
    P s.settle :=
  arbitrate_keeps (take _) 1 (arbitrate_keeps (take s) 0 h)

theorem State.FramesOk.settle {s : State} (h : s.FramesOk) : s.settle.FramesOk :=
  settle_keeps (fun s l v _ sends ok => by
    obtain ⟨u, f, rfl, -, built⟩ := sends
    obtain ⟨built, good⟩ := built ok
    exact built.sends good) h

/-- An enabled port takes a frame into its transmit buffer (R140). -/
theorem State.LinesOk.sends {s v : State} (h : s.LinesOk) {l : LinkId} (on : (s.line l).enabled = true) (sends : s.SendsOn l v) :
    v.LinesOk := by
  obtain ⟨u, f, rfl, lines, -⟩ := sends
  have same (m : LinkId) : u.line m = s.line m := by simp only [State.line, lines]
  intro m
  unfold State.sending
  rw [line_setLine_ite]
  split
  · rw [same]; exact (h l).send on f
  · rw [same]; exact h m

theorem State.LinesOk.settle {s : State} (h : s.LinesOk) : s.settle.LinesOk :=
  settle_keeps (fun _ _ _ on sends ok => ok.sends on sends) h

end Sys2Proof.Machine
end

section
/-! SUPPORT. Every step keeps the law of the line ports and the law of the frames: each command changes the parts as their laws allow, and
may end with the arbiter's takings. -/

namespace Sys2Proof.Machine

/-- From `s`, a command changes each part as its law allows, and the arbiter may take frames after it (log entry 13). -/
def State.Passes (s t : State) : Prop := ∃ u, KeepsParts s u ∧ (t = u ∨ t = u.settle)

theorem KeepsParts.passes {s u : State} (h : KeepsParts s u) : s.Passes u := ⟨u, h, .inl rfl⟩

theorem KeepsParts.passes_settle {s u : State} (h : KeepsParts s u) : s.Passes u.settle := ⟨u, h, .inr rfl⟩

section Rows
variable {s u : State} {o : StepOutcome}

theorem yields_passes (h : Yields o (KeepsParts s)) : Yields o s.Passes := fun t ht => (h t ht).passes

theorem yields_settled_passes (h : Yields o (KeepsParts s)) : Yields (settled o) s.Passes := by
  cases o with
  | next u => exact yields_next (h u rfl).passes_settle
  | fault r => cases r
  | refused r => exact yields_refused r

end Rows

namespace KeepsParts
variable {s : State}

/-! ## Host requests -/

theorem request {p : Slot} {row : Byte → Bool} {body : List Byte} {act : Action} (ha : ∀ hd st, KeepsParts s (act hd st s).1) :
    Yields (s.request p row body act) (KeepsParts s) :=
  yields_request (fun _ x hu => hu.setPort p x) (.refl s) (fun st => (refl s).freeStaged p st) ha

theorem doAttach (p : Slot) (hd : ReqHeader) (st : Staging) : KeepsParts s (State.doAttach p hd st s).1 := by
  unfold State.doAttach
  split
  · exact .refl s
  · exact (refl s).setPort _ _

theorem doLinkStart (p : Slot) (body : List Byte) (hd : ReqHeader) (st : Staging) : KeepsParts s (State.doLinkStart p body hd st s).1 := by
  unfold State.doLinkStart
  split
  · exact .refl s
  rename_i good
  have range : (startParams body).inRange = true := by
    by_contra e; exact good (startBadArg_iff.mpr (.inr (by simpa using e)))
  split
  · exact .refl s
  rename_i l _
  have taken : KeepsParts s (s.startLink p l (startParams body)) := (refl s).startLink p l range
  dsimp only
  split
  · exact .refl s
  · exact .refl s
  · exact .refl s
  · exact .refl s
  · exact taken
  · split
    · exact taken
    · exact .refl s

theorem doLinkStop (p : Slot) (body : List Byte) (hd : ReqHeader) (st : Staging) : KeepsParts s (State.doLinkStop p body hd st s).1 := by
  unfold State.doLinkStop
  split
  · exact .refl s
  dsimp only
  split
  · exact .refl s
  split
  · exact .refl s
  · exact (refl s).stopLink _

theorem doLinkClaim (p : Slot) (body : List Byte) (hd : ReqHeader) (st : Staging) : KeepsParts s (State.doLinkClaim p body hd st s).1 := by
  unfold State.doLinkClaim
  split
  · exact .refl s
  dsimp only
  split
  · exact .refl s
  split
  · refine (refl s).setLink fun k => ?_
    exact { k with }
  · split <;> exact .refl s

theorem doLinkQuery (body : List Byte) (hd : ReqHeader) (st : Staging) : KeepsParts s (State.doLinkQuery body hd st s).1 := by
  unfold State.doLinkQuery; split <;> exact .refl s

theorem doChQuery (body : List Byte) (hd : ReqHeader) (st : Staging) : KeepsParts s (State.doChQuery body hd st s).1 := by
  unfold State.doChQuery; split <;> exact .refl s

/-- CH-LISTEN takes a window of R6. -/
theorem doChListen (p : Slot) (body : List Byte) (hd : ReqHeader) (st : Staging) : KeepsParts s (State.doChListen p body hd st s).1 := by
  unfold State.doChListen
  dsimp only
  split
  · exact .refl s
  rename_i good
  have window := window_of_not_bad (b := takeBody body) (by simp [TakeBody.badListen] at good; exact good.1)
  split
  · exact .refl s
  · exact .refl s
  · exact (refl s).setChan fun _ => ⟨nofun, fun _ => window⟩

/-- CH-OPEN takes a window of R8. -/
theorem doChOpen (p : Slot) (body : List Byte) (hd : ReqHeader) (st : Staging) : KeepsParts s (State.doChOpen p body hd st s).1 := by
  unfold State.doChOpen
  dsimp only
  split
  · exact .refl s
  rename_i good
  simp only [TakeBody.badOpen, Bool.or_eq_true, decide_eq_true_eq, not_or, not_lt, Bool.not_eq_true] at good
  split
  · exact .refl s
  · exact .refl s
  split
  · exact .refl s
  split
  · exact .refl s
  · exact (refl s).openRecord p _ (window_of_not_bad good.1)

theorem doChClose (p : Slot) (body : List Byte) (hd : ReqHeader) (st : Staging) : KeepsParts s (State.doChClose p body hd st s).1 := by
  unfold State.doChClose
  split
  · exact .refl s
  split
  · exact .refl s
  · rename_i opened
    exact (refl s).closeRecord (by rw [not_not.mp opened]; decide)

theorem doChRelease (p : Slot) (body : List Byte) (hd : ReqHeader) (st : Staging) : KeepsParts s (State.doChRelease p body hd st s).1 := by
  unfold State.doChRelease
  split
  · exact .refl s
  dsimp only
  split
  · exact .refl s
  · exact (refl s).giveUp

theorem doRecv (p : Slot) (body : List Byte) (hd : ReqHeader) (st : Staging) : KeepsParts s (State.doRecv p body hd st s).1 := by
  unfold State.doRecv
  split
  · exact .refl s
  dsimp only
  split
  · exact .refl s
  split
  · exact .refl s
  · refine .grant (.setChan (.refl s) fun c => ?_)
    exact ⟨c.queued, c.window⟩

/-- A SEND that passes its checks declares a payload of 1 to 1024 bytes (R109). -/
theorem payload_of_sendCheck {p : Slot} {hd : ReqHeader} {st : Staging} {body : List Byte} {i : ChanId}
    (e : s.sendCheck p hd st body = .ok i) : 1 ≤ payloadLength hd ∧ payloadLength hd ≤ 1024 := by
  unfold State.sendCheck at e
  split at e
  · cases e
  · rename_i good
    simp only [not_or, Config.maxMessage] at good
    omega

/-- A SEND queues a message whose payload is as long as its header declares (R109). -/
theorem doSend (p : Slot) (body : List Byte) (hd : ReqHeader) (st : Staging) (length : hd.len.toNat = body.length) :
    KeepsParts s (State.doSend p body hd st s).1 := by
  unfold State.doSend
  split
  · exact (refl s).freeStaged p st
  · rename_i i passed
    have inUse : (s.chan i).state ≠ .free := by rw [(room_of_sendCheck passed).1]; decide
    have payload := payload_of_sendCheck passed
    unfold payloadLength at payload
    refine (refl s).setChan fun c => ⟨fun m hm => ?_, fun _ => c.window (.inl inUse)⟩
    rcases List.mem_append.mp hm with hm | hm
    · exact c.queued m hm
    · rw [List.mem_singleton.mp hm]
      refine decide_eq_true ?_
      simp only [sendMessage, List.length_drop]
      omega

/-- SEND: its command part is run on a body as long as its header declares (R155). -/
theorem sendRequest (p : Slot) (body : List Byte) : Yields (s.request p (· == 0x30#8) body (State.doSend p body)) (KeepsParts s) := by
  refine yields_endTransaction ((refl s).setPort _ _) fun x u hu => ?_
  split at hu
  · rename_i hd st
    obtain ⟨-, hu⟩ := Option.ite_none_right_eq_some.mp hu
    cases hu
    refine .setPort (.setPort ?_ _ _) _ _
    cases check : commonCheck hd body.length (decide ((s.port p).session = .attached)) with
    | some r => exact (refl s).freeStaged p st
    | none =>
      refine doSend p body hd st ?_
      by_contra length
      simp [commonCheck, Ne.symm length] at check
  · cases hu

/-! ## Transactions and resets -/

theorem execTransactionCode (p : Slot) (code : Byte) : Yields (Machine.execTransactionCode p code s) (KeepsParts s) := by
  refine yields_midTransaction (.refl s) (fun _ => (refl s).setPort _ _) fun x u e => ?_
  split at e <;> cases e
  exact (refl s).setPort _ _

theorem execWriteRequestHeader (p : Slot) (tag code : Byte) (len : Byte × Byte) :
    Yields (Machine.execWriteRequestHeader p tag code len s) (KeepsParts s) := by
  have claim (n : Nat) : KeepsParts s (s.stagingClaim p n).1 := by
    unfold State.stagingClaim
    dsimp only
    split
    · exact .refl s
    · split
      · exact .refl s
      · exact (refl s).setPool _
  unfold Machine.execWriteRequestHeader
  dsimp only
  refine yields_midTransaction (.refl s) (fun _ => (refl s).setPort _ _) fun x u e => ?_
  split at e
  · split at e <;> cases e
    · exact (refl s).setPort _ _
    · refine .setPort ?_ _ _
      split
      · exact claim _
      · exact .refl s
  · cases e

theorem execStatusTransaction (p : Slot) (n : Nat) : Yields (Machine.execStatusTransaction p n s) (KeepsParts s) := by
  refine yields_endTransaction ((refl s).setPort _ _) fun x u e => ?_
  split at e <;> cases e
  exact (refl s).setPort _ _

theorem removeResponse (p : Slot) (r : Response) : KeepsParts s (s.removeResponse p r) := by
  unfold State.removeResponse
  dsimp only
  split
  · exact .serve (.setPool ((refl s).setPort _ _) _)
  · exact (refl s).setPort _ _

theorem execReadResponse (p : Slot) (n : Nat) : Yields (Machine.execReadResponse p n s) s.Passes := by
  refine yields_settled_passes (yields_endTransaction ((refl s).setPort _ _) fun x u e => ?_)
  split at e <;> cases e
  · exact (refl s).setPort _ _
  · refine .setPort ?_ _ _
    split
    · exact removeResponse p _
    · exact .refl s

theorem execReadEvent (p : Slot) (n : Nat) : Yields (Machine.execReadEvent p n s) (KeepsParts s) := by
  refine yields_endTransaction ((refl s).setPort _ _) fun x u e => ?_
  split at e <;> cases e
  · exact (refl s).setPort _ _
  · refine .setPort ?_ _ _
    split
    · exact (refl s).setPort _ _
    · exact .refl s

theorem execIgnoredTransactionEnd (p : Slot) (n : Nat) : Yields (Machine.execIgnoredTransactionEnd p n s) (KeepsParts s) := by
  refine yields_endTransaction ((refl s).setPort _ _) fun x u e => ?_
  split at e <;> cases e
  all_goals exact (refl s).setPort _ _

theorem execChipSelectFalls (p : Slot) : Yields (Machine.execChipSelectFalls p s) (KeepsParts s) := by
  unfold Machine.execChipSelectFalls
  dsimp only
  split
  · exact yields_refused _
  split
  · exact yields_next ((refl s).setPort _ _)
  split
  all_goals exact yields_next ((refl s).setPort _ _)

theorem resetPort (p : Slot) : KeepsParts s (s.resetPort p) := by
  have staged := (refl s).freeStaged p (s.port p).txn.staging
  unfold State.resetPort
  generalize s.freeStaged p (s.port p).txn.staging = t at staged
  refine .setPort (.serve (.setPool ?_ _)) _ _
  split
  · exact staged.endSession p
  · exact staged

theorem execHostPortReset (p : Slot) : Yields (Machine.execHostPortReset p s) s.Passes := by
  unfold Machine.execHostPortReset
  split
  · exact yields_next ((refl s).setPort _ _).passes
  · exact yields_next (resetPort p).passes_settle

theorem execHostPortResetRelease (p : Slot) : Yields (Machine.execHostPortResetRelease p s) (KeepsParts s) := by
  unfold Machine.execHostPortResetRelease
  split
  · exact yields_refused _
  split
  all_goals exact yields_next ((refl s).setPort _ _)

/-- Device reset leaves every part at its state after device reset (R169). -/
theorem execDeviceReset : Yields (Machine.execDeviceReset s) (KeepsParts s) := by
  refine yields_next ⟨fun i _ => ?_, fun l _ => ?_, fun l => ?_⟩
  · simpa [State.chan, State.reset] using Chan.Fits.default
  · simpa [State.link, State.reset] using Link.Fits.default
  · simpa [State.line, LinePort.deviceHeld] using LinePort.follows_default (s.line l) (s.line l).lrdy

theorem execDeviceResetRelease : Yields (Machine.execDeviceResetRelease s) (KeepsParts s) := by
  unfold Machine.execDeviceResetRelease
  split
  · exact yields_next { refl s with }
  · exact yields_refused _

/-! ## Line events and expiries -/

theorem receiveChar {u : State} (h : KeepsParts s u) (l : LinkId) (c : LineChar) : KeepsParts s (u.receiveChar l c) := by
  have received : KeepsParts s (u.setLine l ((u.line l).receive c).1) := h.setLine (LinePort.receive_follows _ c)
  unfold State.receiveChar
  dsimp only
  split
  · exact received.count l _
  · exact received

theorem receiveLevels (l : LinkId) (levels : List Bool) : KeepsParts s (s.receiveLevels l levels) := by
  unfold State.receiveLevels
  dsimp only
  split
  · exact .refl s
  · rename_i on
    refine List.foldlRecOn _ _ ((refl s).setLine (LinePort.rxWait_follows (by simpa using on) _)) fun u hu c _ => ?_
    exact hu.receiveChar l c

theorem keepSample (l : LinkId) (v : Bool) : KeepsParts s (s.keepSample l v) := (refl s).setLine (LinePort.sampled_follows _ v)

theorem execLineReadyDeasserted (l : LinkId) : Yields (Machine.execLineReadyDeasserted l s) s.Passes := by
  unfold Machine.execLineReadyDeasserted
  dsimp only
  split
  · exact yields_next ((keepSample l false).lineLost l).passes_settle
  · exact yields_next (keepSample l false).passes

theorem freeTransmitter (l : LinkId) : KeepsParts s (s.freeTransmitter l) := (refl s).setLine (LinePort.free_follows _)

theorem execTransmitComplete (l : LinkId) : Yields (Machine.execTransmitComplete l s) s.Passes := by
  unfold Machine.execTransmitComplete
  split
  · split
    · exact yields_refused _
    · exact yields_next ((freeTransmitter l).count l _).passes_settle
  · exact yields_refused _

theorem execTruncationComplete (l : LinkId) : Yields (Machine.execTruncationComplete l s) s.Passes := by
  unfold Machine.execTruncationComplete
  split
  · split
    · exact yields_next (freeTransmitter l).passes_settle
    · exact yields_refused _
  · exact yields_refused _

theorem execTAckExpiry (l : LinkId) : Yields (Machine.execTAckExpiry l s) s.Passes := by
  unfold Machine.execTAckExpiry
  dsimp only
  split
  · refine yields_next (passes_settle ((refl s).setLink fun k => ?_))
    exact { k with }
  · exact yields_next (refl s).passes

theorem execTRespExpiry (l : LinkId) : Yields (Machine.execTRespExpiry l s) s.Passes := by
  unfold Machine.execTRespExpiry
  split
  · exact yields_next ((refl s).respExpired l).passes_settle
  · exact yields_next (refl s).passes

theorem execTIdleExpiry (l : LinkId) : Yields (Machine.execTIdleExpiry l s) s.Passes := by
  unfold Machine.execTIdleExpiry
  dsimp only
  split
  · refine yields_next (passes_settle ((refl s).setLink fun k => ?_))
    exact { k with }
  · exact yields_next (refl s).passes

theorem tick : KeepsParts s s.tick := by
  unfold State.tick
  split
  · exact .refl s
  · refine ⟨fun i => id, fun l k => ?_, fun l => ?_⟩
    · have ticked : (s.link l).tick.Fits := { k with }
      simpa [State.link] using ticked
    · simpa [State.line] using LinePort.tick_follows (s.line l)

/-! ## Received frames -/

section Heard
variable {l : LinkId} (good : ∀ f ∈ (s.line l).held, f.wellFormed = true)
include good

/-- The row of a received frame, by what it does after the frame, which has passed the checks of R145, has left its buffer (R146). -/
theorem takeHeld {act : Frame → Option (State → State)}
    (ha : ∀ f g, f.wellFormed = true → act f = some g → ∀ u, KeepsParts s u → KeepsParts s (g u)) : Yields (s.takeHeld l act) s.Passes := by
  unfold State.takeHeld
  split
  · rename_i f rest held
    split
    · have taken := (refl s).setLine (LinePort.taken_follows held)
      exact yields_next (ha f _ (good f (held ▸ List.mem_cons_self)) ‹_› _ taken).passes_settle
    · exact yields_refused _
  · exact yields_refused _

theorem takeHeldSequenced {deliver : ChanId → ChanId → Content → Option (State → State)}
    (hd : ∀ dst src c g, deliver dst src c = some g → ∀ u, KeepsParts s u → KeepsParts s (g u)) :
    Yields (s.takeHeldSequenced l deliver) s.Passes := by
  refine takeHeld good fun f g _ hg u hu => ?_
  split at hg
  · obtain ⟨d, delivers, rfl⟩ := Option.map_eq_some_iff.mp hg
    exact hu.takeSequenced (hd _ _ _ _ delivers)
  · cases hg

theorem execLinkOpen : Yields (Machine.execLinkOpen l s) s.Passes := by
  refine takeHeld good fun f g wf hg u hu => ?_
  split at hg <;> cases hg
  simp only [Frame.wellFormed, Bool.and_eq_true, bne_iff_ne, decide_eq_true_eq] at wf
  exact hu.takeLinkOpen wf.1 wf.2.1

theorem execLinkAccept : Yields (Machine.execLinkAccept l s) s.Passes := by
  refine takeHeld good fun f g wf hg u hu => ?_
  split at hg <;> cases hg
  simp only [Frame.wellFormed, Bool.and_eq_true, bne_iff_ne, decide_eq_true_eq] at wf
  exact hu.takeLinkAccept _ wf.1.2 wf.2.1

theorem execLinkClose : Yields (Machine.execLinkClose l s) s.Passes := by
  refine takeHeld good fun f g _ hg u hu => ?_
  split at hg <;> cases hg
  exact hu.takeLinkClose

theorem execLinkClosed : Yields (Machine.execLinkClosed l s) s.Passes := by
  refine takeHeld good fun f g _ hg u hu => ?_
  split at hg <;> cases hg
  exact hu.takeLinkClosed

theorem execStatus : Yields (Machine.execStatus l s) s.Passes := by
  refine takeHeld good fun f g _ hg u hu => ?_
  split at hg <;> cases hg
  exact hu.withNr fun v hv => hv.setLink fun k => k.takeStatusFlags _ _

theorem execResend : Yields (Machine.execResend l s) s.Passes := by
  refine takeHeld good fun f g _ hg u hu => ?_
  split at hg <;> cases hg
  exact hu.withNr fun v hv => hv.setLink fun k => k.takeResend

theorem execData : Yields (Machine.execData l s) s.Passes := by
  refine takeHeldSequenced good fun dst src c g hg u hu => ?_
  split at hg <;> cases hg
  exact hu.deliverData dst src _

theorem execChanOpen : Yields (Machine.execChanOpen l s) s.Passes := by
  refine takeHeldSequenced good fun dst src c g hg u hu => ?_
  split at hg <;> cases hg
  exact hu.deliverOpen dst src _

theorem execChanAccept : Yields (Machine.execChanAccept l s) s.Passes := by
  refine takeHeldSequenced good fun dst src c g hg u hu => ?_
  split at hg <;> cases hg
  exact hu.deliverAccept dst src _

theorem execChanRefuse : Yields (Machine.execChanRefuse l s) s.Passes := by
  refine takeHeldSequenced good fun dst src c g hg u hu => ?_
  split at hg <;> cases hg
  exact hu.deliverRefuse dst src _

theorem execChanClose : Yields (Machine.execChanClose l s) s.Passes := by
  refine takeHeldSequenced good fun dst src c g hg u hu => ?_
  split at hg <;> cases hg
  exact hu.deliverClose dst src _

theorem execChanClosed : Yields (Machine.execChanClosed l s) s.Passes := by
  refine takeHeldSequenced good fun dst src c g hg u hu => ?_
  split at hg <;> cases hg
  exact hu.deliverClosed dst src

theorem execChanCredit : Yields (Machine.execChanCredit l s) s.Passes := by
  refine takeHeldSequenced good fun dst src c g hg u hu => ?_
  split at hg <;> cases hg
  exact hu.deliverCredit dst src _

end Heard

/-! ## The rows of the table -/

/-- Every command, on a state whose held frames have passed the checks of R145. -/
theorem exec (good : ∀ l, ∀ f ∈ (s.line l).held, f.wellFormed = true) (c : Instr) : Yields (Machine.exec c s) s.Passes := by
  cases c with
  | attach p body => exact yields_passes (request (doAttach p) : Yields (Machine.execAttach p body s) _)
  | detach p body => exact yields_settled_passes (request fun _ _ => (refl s).endSession p)
  | linkStart p body => exact yields_settled_passes (request (doLinkStart p body))
  | linkStop p body => exact yields_settled_passes (request (doLinkStop p body))
  | linkClaim p body => exact yields_passes (request (doLinkClaim p body) : Yields (Machine.execLinkClaim p body s) _)
  | linkQuery p body => exact yields_passes (request (doLinkQuery body) : Yields (Machine.execLinkQuery p body s) _)
  | chListen p body => exact yields_passes (request (doChListen p body) : Yields (Machine.execChListen p body s) _)
  | chOpen p body => exact yields_settled_passes (request (doChOpen p body))
  | chClose p body => exact yields_settled_passes (request (doChClose p body))
  | chRelease p body => exact yields_settled_passes (request (doChRelease p body))
  | chQuery p body => exact yields_passes (request (doChQuery body) : Yields (Machine.execChQuery p body s) _)
  | send p body => exact yields_settled_passes (sendRequest p body)
  | recv p body => exact yields_settled_passes (request (doRecv p body))
  | poolQuery p body => exact yields_passes (request fun _ _ => .refl s : Yields (Machine.execPoolQuery p body s) _)
  | unknownCommand p body => exact yields_passes (request fun _ _ => .refl s : Yields (Machine.execUnknownCommand p body s) _)
  | transactionCode p code => exact yields_passes (execTransactionCode p code)
  | statusTransaction p n => exact yields_passes (execStatusTransaction p n)
  | writeRequestHeader p tag code len => exact yields_passes (execWriteRequestHeader p tag code len)
  | readResponse p n => exact execReadResponse p n
  | readEvent p n => exact yields_passes (execReadEvent p n)
  | hostPortReset p => exact execHostPortReset p
  | hostPortResetRelease p => exact yields_passes (execHostPortResetRelease p)
  | deviceReset => exact yields_passes execDeviceReset
  | deviceResetRelease => exact yields_passes execDeviceResetRelease
  | lineReadyDeasserted l => exact execLineReadyDeasserted l
  | lineReadyAsserted l => exact yields_next (keepSample l true).passes
  | frameBodyStart l b => exact yields_next (receiveLevels l _).passes
  | frameEnd l => exact yields_next (receiveLevels l _).passes
  | huntDelimiter l => exact yields_next (receiveLevels l _).passes
  | bodyCharacter l levels => exact yields_next (receiveLevels l _).passes
  | transmitComplete l => exact execTransmitComplete l
  | truncationComplete l => exact execTruncationComplete l
  | linkOpen l => exact execLinkOpen (good l)
  | linkAccept l => exact execLinkAccept (good l)
  | linkClose l => exact execLinkClose (good l)
  | linkClosed l => exact execLinkClosed (good l)
  | status l => exact execStatus (good l)
  | resend l => exact execResend (good l)
  | data l => exact execData (good l)
  | chanOpen l => exact execChanOpen (good l)
  | chanAccept l => exact execChanAccept (good l)
  | chanRefuse l => exact execChanRefuse (good l)
  | chanClose l => exact execChanClose (good l)
  | chanClosed l => exact execChanClosed (good l)
  | chanCredit l => exact execChanCredit (good l)
  | tAckExpiry l => exact execTAckExpiry l
  | tRespExpiry l => exact execTRespExpiry l
  | tIdleExpiry l => exact execTIdleExpiry l
  | chipSelectFalls p => exact yields_passes (execChipSelectFalls p)
  | ignoredTransactionEnd p n => exact yields_passes (execIgnoredTransactionEnd p n)

/-- A step, on a state whose held frames have passed the checks of R145. -/
theorem step (good : ∀ l, ∀ f ∈ (s.line l).held, f.wellFormed = true) : Yields (Machine.step s) s.Passes := by
  unfold Machine.step
  split
  · rename_i c rest _
    intro t ht
    obtain ⟨u, keeps, ends⟩ := exec (s := { s with pending := rest }) good c t ht
    exact ⟨u, { keeps with }, ends⟩
  · exact yields_next tick.passes

end KeepsParts

/-! ## The two laws -/

/-- Settles O5: each port follows its own law, and the arbiter hands frames to enabled ports. -/
theorem stepKeepsLines : Obligations.StepKeepsLines := by
  intro s t h ht
  obtain ⟨u, keeps, ends⟩ := KeepsParts.step (fun l => (h l).held) t ht
  have kept : u.LinesOk := fun l => (keeps.line l).ok (h l)
  rcases ends with rfl | rfl
  · exact kept
  · exact kept.settle

/-- Settles O10: each part keeps the ranges of what frames are built from, and the arbiter builds frames from these. -/
theorem stepKeepsFrames : Obligations.StepKeepsFrames := by
  intro s t h ht
  obtain ⟨u, keeps, ends⟩ := KeepsParts.step h.held t ht
  have kept := h.keeps keeps
  rcases ends with rfl | rfl
  · exact kept
  · exact kept.settle

end Sys2Proof.Machine
end

section
/-! SUPPORT. The event queue of a host port (R162, R163): what a post does to it, and that posts keep the law of the port. -/

namespace Sys2Proof.Machine

/-! ## The event queue after a post (R162) -/

theorem ordinary_iff {e : Event} : e.ordinary = true ↔ e.kind ≠ .overflow := bne_iff_ne

/-- The last record of a queue, if there is one, is ordinary: no OVERFLOW record takes posts. -/
def lastOrdinary (q : List Event) : Prop := ∀ t, q.getLast? = some t → t.kind ≠ .overflow

/-- A post is counted into an OVERFLOW record. -/
theorem postEvents_counted (e : Event) (q : List Event) {t : Event} (h : t.kind = .overflow) :
    postEvents e (q ++ [t]) = q ++ [{ t with arg := saturate16 (t.arg + 1) }] := by
  simp [postEvents, h]

/-- A post to a queue without room starts an OVERFLOW record. -/
theorem postEvents_overflows (e : Event) {q : List Event} (last : lastOrdinary q) (full : 31 ≤ (q.filter Event.ordinary).length) :
    postEvents e q = q ++ [overflowRecord 1] := by
  unfold postEvents
  split
  · next t ht => rw [if_neg (last t ht), if_pos (show Config.eventMax ≤ _ from full)]
  · next empty =>
    rw [List.getLast?_eq_none_iff.mp empty] at full
    exact absurd full (by decide)

/-- A post to a queue with room joins it. -/
theorem postEvents_joins (e : Event) {q : List Event} (last : lastOrdinary q) (room : (q.filter Event.ordinary).length < 31) :
    postEvents e q = q ++ [e] := by
  unfold postEvents
  split
  · next t ht => rw [if_neg (last t ht), if_neg (show ¬ Config.eventMax ≤ _ from Nat.not_le.mpr room)]
  · next empty => rw [List.getLast?_eq_none_iff.mp empty]; rfl

/-- A queue ends with an OVERFLOW record, or its last record is ordinary. -/
theorem overflow_or_lastOrdinary (q : List Event) : (∃ init t, q = init ++ [t] ∧ t.kind = .overflow) ∨ lastOrdinary q := by
  by_cases h : lastOrdinary q
  · exact .inr h
  · simp only [lastOrdinary, not_forall, not_not] at h
    obtain ⟨t, last, overflow⟩ := h
    obtain ⟨init, rfl⟩ := List.getLast?_eq_some_iff.mp last
    exact .inl ⟨init, t, rfl, overflow⟩

/-- A queue holds an event after a post. -/
theorem postEvents_ne_nil (e : Event) (q : List Event) : postEvents e q ≠ [] := by
  unfold postEvents
  split
  · split_ifs <;> simp
  · simp

/-! ## The law of an event queue -/

/-- The law of an event queue (R162): at most 31 ordinary records, and an OVERFLOW record, with a count of 1 to 65535, only as the last. -/
structure EventsOk (q : List Event) : Prop where
  ordinary : (q.filter Event.ordinary).length ≤ 31
  overflowLast : ∀ e ∈ q.dropLast, e.ordinary = true
  overflowArg : ∀ e ∈ q, e.kind = .overflow → 1 ≤ e.arg ∧ e.arg ≤ 65535

theorem HostPort.Ok.eventsOk {x : HostPort} (h : x.Ok) : EventsOk x.events := ⟨h.ordinary, h.overflowLast, h.overflowArg⟩

namespace EventsOk
variable {q : List Event}

theorem nil : EventsOk [] := by constructor <;> simp

/-- Where no OVERFLOW record is last, there is none. -/
theorem all_ordinary (h : EventsOk q) (last : lastOrdinary q) : ∀ e ∈ q, e.ordinary = true := by
  intro e he
  rcases List.eq_nil_or_concat' q with rfl | ⟨init, t, rfl⟩
  · cases he
  · rcases List.mem_append.mp he with hi | ht
    · exact h.overflowLast e (by simpa using hi)
    · rw [List.mem_singleton.mp ht]
      exact ordinary_iff.mpr (last t (by simp))

/-- Records removed from the head leave a lawful queue. -/
theorem tail (h : EventsOk q) : EventsOk q.tail where
  ordinary := ((List.tail_sublist q).filter _).length_le.trans h.ordinary
  overflowLast e he := h.overflowLast e (List.mem_of_mem_tail (List.tail_dropLast ▸ he))
  overflowArg e he := h.overflowArg e (List.mem_of_mem_tail he)

/-- An OVERFLOW record that has become the only one. -/
theorem overflow {n : Nat} (pos : 1 ≤ n) (max : n ≤ 65535) : EventsOk [overflowRecord n] := by
  constructor <;> simp [overflowRecord, Event.ordinary, pos, max]

/-- A post of an ordinary event keeps the law (R162). -/
theorem post (h : EventsOk q) {e : Event} (he : e.ordinary = true) : EventsOk (postEvents e q) := by
  rcases overflow_or_lastOrdinary q with ⟨init, t, rfl, overflow⟩ | last
  · obtain ⟨count, ordinary, arg⟩ := h
    have notOrdinary (n : Nat) : ({ t with arg := n } : Event).ordinary = false := by simp [Event.ordinary, overflow]
    have told := arg t (by simp) overflow
    rw [postEvents_counted e init overflow]
    refine ⟨?_, ?_, fun f hf k => ?_⟩
    · rw [List.filter_append] at count ⊢
      simpa [notOrdinary, show t.ordinary = false from notOrdinary t.arg] using count
    · simpa using ordinary
    · rcases List.mem_append.mp hf with hi | hl
      · exact arg f (List.mem_append_left _ hi) k
      · rw [List.mem_singleton.mp hl]
        simp only [saturate16]
        omega
  · have all := h.all_ordinary last
    have grown (f : Event) (good : f.kind = .overflow → 1 ≤ f.arg ∧ f.arg ≤ 65535)
        (count : ((q ++ [f]).filter Event.ordinary).length ≤ 31) : EventsOk (q ++ [f]) := by
      refine ⟨count, by simpa using all, fun g hg k => ?_⟩
      rcases List.mem_append.mp hg with hq | hf
      · exact h.overflowArg g hq k
      · rw [List.mem_singleton.mp hf] at k ⊢; exact good k
    rcases Nat.lt_or_ge (q.filter Event.ordinary).length 31 with room | full
    · rw [postEvents_joins e last room]
      exact grown e (fun k => absurd k (ordinary_iff.mp he)) (by simp [List.filter_append, he]; omega)
    · rw [postEvents_overflows e last full]
      exact grown _ (fun _ => ⟨le_rfl, by decide⟩) (by
        rw [List.filter_append]; simpa [overflowRecord, Event.ordinary] using h.ordinary)

end EventsOk

/-! ## The read in progress (R163) -/

/-- A post leaves every transaction but a read that has chosen an event. -/
theorem countPost_of_not_read {t : Txn} (h : ∀ c n, t ≠ .readEvent (some c) n) : t.countPost = t := by
  unfold Txn.countPost
  split
  · exact absurd rfl (h _ _)
  · rfl

/-- A read that has chosen an OVERFLOW record counts the post. -/
theorem countPost_overflow {c : Event} (h : c.kind = .overflow) (n : Nat) :
    (Txn.readEvent (some c) n).countPost = .readEvent (some c) (saturate16 (n + 1)) := if_pos h

theorem countPost_ordinary {c : Event} (h : c.kind ≠ .overflow) (n : Nat) :
    (Txn.readEvent (some c) n).countPost = .readEvent (some c) n := if_neg h

/-- A transaction that is no read of an event after a post was there before it. -/
theorem eq_of_countPost {t u : Txn} (h : t.countPost = u) (hu : ∀ c n, u ≠ .readEvent (some c) n) : t = u := by
  by_cases read : ∃ c n, t = .readEvent (some c) n
  · obtain ⟨c, n, rfl⟩ := read
    by_cases hc : c.kind = .overflow
    · exact absurd (h.symm.trans (countPost_overflow hc n)) (hu _ _)
    · exact absurd (h.symm.trans (countPost_ordinary hc n)) (hu _ _)
  · rw [← h, countPost_of_not_read fun c n e => read ⟨c, n, e⟩]

/-- An attached port takes a post (R162). -/
theorem post_attached {x : HostPort} (h : x.session = .attached) (e : Event) :
    x.post e = { x with events := postEvents e x.events, txn := x.txn.countPost } := if_pos h

theorem hint_iff (x : HostPort) : x.hint = true ↔ x.session ≠ .reset ∧ (x.responses ≠ [] ∨ x.events ≠ []) := by
  simp [HostPort.hint]

/-- An attached port asserts HINTn after a post (R164). -/
theorem post_hint {x : HostPort} (h : x.session = .attached) (e : Event) : (x.post e).hint = true := by
  refine (hint_iff _).mpr ⟨by rw [post_session, h]; nofun, .inr ?_⟩
  rw [post_attached h]
  exact fun empty => postEvents_ne_nil e x.events empty

/-- Settles O60, by the record at the end of the queue. -/
theorem postsJoinTheEventQueue : Obligations.PostsJoinTheEventQueue := by
  refine ⟨hint_iff, fun x e => ?_⟩
  intro last ordinary joined plain
  have joins {q : List Event} {t : Txn} (h : x.session = .attached) (hq : postEvents e x.events = q) (ht : x.txn.countPost = t) :
      joined q t := ⟨by rw [post_attached h, hq, ht], post_hint h e⟩
  have count : (x.events.filter Event.ordinary).length = ordinary :=
    congrArg List.length (List.filter_congr fun f _ => by rw [Bool.eq_iff_iff, ordinary_iff, decide_eq_true_eq])
  refine ⟨post_of_no_session e, fun h unread => ?_, fun h c n q t read overflow events counts => ?_⟩
  · have kept : x.txn.countPost = x.txn := by
      cases ht : x.txn with
      | readEvent c n =>
        cases c with
        | some c => exact countPost_ordinary (unread c n ht) n
        | none => rfl
      | _ => rfl
    refine ⟨fun hl room => joins h (postEvents_joins e hl (count ▸ room)) kept,
      fun hl full => joins h (postEvents_overflows e hl (count ▸ full)) kept, fun q t events counts => ?_⟩
    exact joins h (by rw [events]; exact postEvents_counted e q counts) kept
  · refine joins h ?_ ?_
    · rw [events]; exact postEvents_counted e q counts
    · rw [read]; exact countPost_overflow overflow n

/-! ## The law of a port across a post -/

/-- A post of an ordinary event keeps the law of the port (R162, R163). -/
theorem HostPort.Ok.post {x : HostPort} (h : x.Ok) {e : Event} (he : e.ordinary = true) : (x.post e).Ok := by
  by_cases attached : x.session = .attached
  swap
  · rwa [post_of_no_session e attached]
  obtain ⟨ordinary, overflowLast, overflowArg⟩ := h.eventsOk.post he
  rw [post_attached attached]
  refine {
    ordinary, overflowLast, overflowArg
    responses := h.responses
    room := fun hd st ht => h.room hd st (eq_of_countPost ht nofun)
    noSession := fun hn => absurd attached hn
    inReset := fun reset => absurd (attached.symm.trans reset) nofun
    idle := fun high => by
      have idle := h.idle high
      exact (congrArg Txn.countPost idle).trans rfl
    chosenResponse := fun r ht => h.chosenResponse r (eq_of_countPost ht nofun)
    chosenEvent := fun c n ht => ?_
    staging := fun hd st ht => h.staging hd st (eq_of_countPost ht nofun) }
  replace ht : x.txn.countPost = .readEvent (some c) n := ht
  obtain ⟨m, read⟩ : ∃ m, x.txn = .readEvent (some c) m := by
    unfold Txn.countPost at ht
    split at ht
    · next c' m read =>
      rw [read]
      split at ht <;> cases ht <;> exact ⟨_, rfl⟩
    · exact ⟨n, ht⟩
  obtain ⟨max, head, only⟩ := h.chosenEvent c m read
  by_cases overflow : c.kind = .overflow
  · rw [read, countPost_overflow overflow] at ht
    cases ht
    obtain ⟨a, alone⟩ := only overflow
    refine ⟨Nat.min_le_right .., fun hc => absurd overflow hc, fun _ => ⟨saturate16 (a + 1), ?_⟩⟩
    show postEvents e x.events = _
    rw [alone]
    exact postEvents_counted (t := { c with arg := a }) e [] overflow
  · rw [read, countPost_ordinary overflow] at ht
    cases ht
    refine ⟨max, fun _ => ?_, fun hc => absurd hc overflow⟩
    obtain ⟨rest, events⟩ := List.head?_eq_some_iff.mp (head overflow)
    show (postEvents e x.events).head? = _
    rcases overflow_or_lastOrdinary x.events with ⟨init, t, hq, counts⟩ | last
    · rw [hq, postEvents_counted e init counts]
      cases init with
      | nil =>
        rw [events] at hq
        cases hq
        exact absurd counts overflow
      | cons d init =>
        rw [events] at hq
        cases hq
        rfl
    · have grown (f : Event) : (x.events ++ [f]).head? = some c := by rw [events]; rfl
      rcases Nat.lt_or_ge (x.events.filter Event.ordinary).length 31 with room | full
      · rw [postEvents_joins e last room]; exact grown e
      · rw [postEvents_overflows e last full]; exact grown _

end Sys2Proof.Machine
end

section
/-! SUPPORT. What the host ports hear of a step: the operations of the channel table, of the links and of the line ports change nothing of
a port but by posts of ordinary events (R48, R162). -/

namespace Sys2Proof.Machine

/-! ## One port -/

/-- A port after posts of ordinary events. -/
inductive HostPort.Hears (x : HostPort) : HostPort → Prop where
  | nothing : x.Hears x
  | post {y : HostPort} (e : Event) (he : e.ordinary = true) (h : x.Hears y) : x.Hears (y.post e)

namespace HostPort.Hears
variable {x y z : HostPort}

theorem trans (h : x.Hears y) (h' : y.Hears z) : x.Hears z := by
  induction h' with
  | nothing => exact h
  | post e he _ ih => exact ih.post e he

/-- Posts keep the law of the port. -/
theorem ok (h : x.Hears y) (hx : x.Ok) : y.Ok := by
  induction h with
  | nothing => exact hx
  | post e he _ ih => exact ih.post he

/-- Posts leave everything of a port but its event queue and the count of a read in progress. -/
theorem frame (h : x.Hears y) : y = { x with events := y.events, txn := y.txn } := by
  induction h with
  | nothing => rfl
  | post e _ _ ih => rw [post_frame, ih]

theorem session (h : x.Hears y) : y.session = x.session := by rw [h.frame]
theorem responses (h : x.Hears y) : y.responses = x.responses := by rw [h.frame]
theorem csLow (h : x.Hears y) : y.csLow = x.csLow := by rw [h.frame]
theorem hrstLow (h : x.Hears y) : y.hrstLow = x.hrstLow := by rw [h.frame]

/-- A port without a session hears nothing. -/
theorem eq_of_no_session (h : x.Hears y) (hx : x.session ≠ .attached) : y = x := by
  induction h with
  | nothing => rfl
  | post e _ _ ih => rw [ih, post_of_no_session e hx]

end HostPort.Hears

/-! ## The ports of a state -/

/-- From `s` to `u` every host port has taken posts of ordinary events, and nothing else of the ports and of RESET has changed. -/
def PortsHear (s u : State) : Prop := u.resetLow = s.resetLow ∧ ∀ p, (s.port p).Hears (u.port p)

namespace PortsHear
variable {s u v : State} {i : ChanId} {l : LinkId}

theorem refl (s : State) : PortsHear s s := ⟨rfl, fun _ => .nothing⟩

theorem trans (h : PortsHear s u) (h' : PortsHear u v) : PortsHear s v :=
  ⟨h'.1.trans h.1, fun p => (h.2 p).trans (h'.2 p)⟩

/-- A change that no port sees. -/
theorem same (h : PortsHear s u) (ports : v.ports = u.ports) (low : v.resetLow = u.resetLow) : PortsHear s v :=
  ⟨low.trans h.1, fun p => by rw [show v.port p = u.port p by simp only [State.port, ports]]; exact h.2 p⟩

theorem live (h : PortsHear s u) (p : Slot) : u.portLive p = s.portLive p := by
  simp only [State.portLive, h.1, (h.2 p).session]

theorem postTo (h : PortsHear s u) (n : Slot) {e : Event} (he : e.ordinary = true) : PortsHear s (u.postTo n e) := by
  refine ⟨h.1, fun p => ?_⟩
  rw [postTo_port]
  split
  · exact (h.2 p).post e he
  · exact h.2 p

theorem postAll (h : PortsHear s u) {e : Event} (he : e.ordinary = true) : PortsHear s (u.postAll e) :=
  ⟨h.1, fun p => by rw [postAll_port]; exact (h.2 p).post e he⟩

theorem postOthers (h : PortsHear s u) (n : Slot) {e : Event} (he : e.ordinary = true) : PortsHear s (u.postOthers n e) := by
  obtain ⟨-, -, -, -, low, -⟩ := postOthers_frame u n e
  refine ⟨low.trans h.1, fun p => ?_⟩
  rw [postOthers_port]
  split
  · exact h.2 p
  · exact (h.2 p).post e he

/-- Serving the credit-owed list (R101). -/
theorem serve (h : PortsHear s u) : PortsHear s u.serve := h.same (serve_ports u) (serve_resetLow u)

section Operations
variable (h : PortsHear s u)
include h

/-! ### The channel table -/

theorem endChan (r : Reason) : PortsHear s (u.endChan i r) := by
  rw [endChan_eq]
  exact .serve (.postTo h _ rfl)

theorem abortChan : PortsHear s (u.abortChan i) := by
  rw [abortChan_eq]
  exact .serve h

theorem freeAborted : PortsHear s (u.freeAborted i) := .postTo h _ rfl

/-- A record given up (R127, R135). -/
theorem giveUp : PortsHear s (u.giveUp i) := by
  unfold State.giveUp
  dsimp only
  split
  · exact h
  · exact .serve h
  · split
    · exact .serve h
    · exact h.abortChan
  · exact h.abortChan
  · exact h.abortChan
  · exact h
  · exact h

theorem enterOpen (w : Nat) : PortsHear s (u.enterOpen i w) := .postTo h _ rfl

theorem crossOpen (w : Nat) : PortsHear s (u.crossOpen i w) := by
  unfold State.crossOpen
  dsimp only
  split
  · exact h.enterOpen w
  · exact h.enterOpen w

theorem acceptOpen (src : ChanId) (w : Nat) : PortsHear s (u.acceptOpen i src w) := .postTo h _ rfl

theorem closeRecord : PortsHear s (u.closeRecord i) := by
  unfold State.closeRecord
  dsimp only
  split <;> exact h

theorem grant : PortsHear s (u.grant i) := by
  have raised (g : Nat) : PortsHear s (u.raiseGrant i g) := by
    obtain ⟨ports, -, low, -⟩ := raiseGrant_frame u i g
    exact h.same ports low
  unfold State.grant
  dsimp only
  split
  · exact h
  split
  · exact raised _
  · exact raised _

theorem tearRecord (r : Reason) : PortsHear s (u.tearRecord i r) := by
  unfold State.tearRecord
  split
  · exact h.endChan r
  · exact h.endChan r
  · exact h.endChan r
  · exact h.freeAborted
  all_goals exact h

theorem endSessionRecords (p : Slot) : PortsHear s (u.endSessionRecords p) := by
  refine List.foldlRecOn _ _ h fun w hw i _ => ?_
  split
  · exact hw.giveUp
  · exact hw

theorem freeStaged (p : Slot) (st : Staging) : PortsHear s (u.freeStaged p st) := by
  cases st with
  | granted n => exact .serve h
  | none | refused _ => exact h

/-! ### Links that change their state -/

/-- A teardown (R46): the events of its records (R133). -/
theorem teardown (l : LinkId) (r : Reason) : PortsHear s (u.teardown l r) := by
  have records : PortsHear s (u.tearChannels l r) := by
    refine List.foldlRecOn _ _ h fun w hw i _ => ?_
    split
    · exact hw.tearRecord r
    · exact hw
  unfold State.teardown
  generalize u.tearChannels l r = t at records
  exact PortsHear.serve (u := (t.freeTxMsgs _).setLink l _) records

/-- A change of a link record with a post to every attached host (R48). -/
theorem postLink (l : LinkId) (k : Link) {e : Event} (he : e.ordinary = true) : PortsHear s ((u.setLink l k).postAll e) :=
  PortsHear.postAll (u := u.setLink l k) h he

theorem enterDown (r : Reason) : PortsHear s (u.enterDown l r) := by
  rw [enterDown_eq]
  exact h.postLink l _ rfl

theorem completeStop (r : Reason) : PortsHear s (u.completeStop l r) := by
  rw [completeStop_eq]
  exact h.postLink l _ rfl

theorem enterFailed (r : Reason) : PortsHear s (u.enterFailed l r) := by
  rw [enterFailed_eq]
  exact h.postLink l _ rfl

theorem establish (peer : Byte) (agreed : Nat) : PortsHear s (u.establish l peer agreed) := h.postLink l _ rfl

theorem protocolReset : PortsHear s (u.protocolReset l) := by
  rw [protocolReset_eq]
  exact (h.teardown l .protocolError).postLink l _ rfl

/-- A controller role given up (R34). -/
theorem vacate (p : Slot) (l : LinkId) : PortsHear s (u.vacate p l) := by
  unfold State.vacate
  dsimp only
  split
  · split
    · exact h
    · exact PortsHear.postOthers (u := u.setLink l _) h p rfl
  · exact h

/-! ### Acknowledgement and sequence -/

theorem acknowledge (nr : Seq) : PortsHear s (u.acknowledge l nr) := by
  unfold State.acknowledge
  dsimp only
  split
  · exact h
  · refine .serve (List.foldlRecOn _ _ h fun w hw m _ => ?_)
    split
    · exact hw.postTo _ rfl
    · exact hw

/-- A frame that carries nr (R55), by what it does in UP after a valid nr. -/
theorem withNr {nr : Seq} {act : State → State} (ha : ∀ w, PortsHear s w → PortsHear s (act w)) : PortsHear s (u.withNr l nr act) := by
  have idled : PortsHear s (u.setLink l (u.link l).touchIdle) := h
  unfold State.withNr
  dsimp only
  split
  · exact h
  split
  · exact ha _ (idled.acknowledge nr)
  · exact idled.protocolReset

theorem takeSequenced {ns nr : Seq} {deliver : State → State} (hd : ∀ w, PortsHear s w → PortsHear s (deliver w)) :
    PortsHear s (u.takeSequenced l ns nr deliver) := by
  refine h.withNr fun w hw => ?_
  dsimp only
  split
  · exact hd (w.setLink l (w.link l).accepted) hw
  · exact hw

/-! ### Frames handed to the channel table -/

theorem deliverData (dst src : ChanId) (payload : List Byte) : PortsHear s (u.deliverData l dst src payload) := by
  unfold State.deliverData
  dsimp only
  split
  · split
    · unfold State.place
      dsimp only
      split
      · exact .postTo h _ rfl
      · exact h
    · have counted : PortsHear s (u.count l Counters.bumpViolation) := h
      exact counted.abortChan.postTo _ rfl
  · exact h

theorem deliverOpen (dst src : ChanId) (w : Nat) : PortsHear s (u.deliverOpen l dst src w) := by
  unfold State.deliverOpen
  dsimp only
  split
  · exact h
  · split
    · split
      · exact h.acceptOpen src w
      · exact h
    · exact h
  · split
    · exact h.crossOpen w
    · exact h
  all_goals exact h

theorem deliverAccept (dst src : ChanId) (w : Nat) : PortsHear s (u.deliverAccept l dst src w) := by
  unfold State.deliverAccept
  dsimp only
  split
  · exact h.enterOpen w
  · exact h

theorem deliverRefuse (dst src : ChanId) (r : Reason) : PortsHear s (u.deliverRefuse l dst src r) := by
  unfold State.deliverRefuse
  dsimp only
  split
  · exact h.endChan r
  split
  · exact h.freeAborted
  · exact h

theorem deliverClose (dst src : ChanId) (abort : Bool) : PortsHear s (u.deliverClose l dst src abort) := by
  have effect : PortsHear s (u.closeEffect l dst src abort) := by
    unfold State.closeEffect
    dsimp only
    split
    · split
      · exact h.endChan _
      · exact h.endChan _
      · split
        · exact h
        · exact h.endChan _
      · split
        · exact h
        · exact h.freeAborted
      all_goals exact h
    · exact h
  exact effect

theorem deliverClosed (dst src : ChanId) : PortsHear s (u.deliverClosed l dst src) := by
  unfold State.deliverClosed
  dsimp only
  split
  · split
    · exact h.endChan _
    · exact h.freeAborted
    all_goals exact h
  · exact h

theorem deliverCredit (dst src : ChanId) (limit : Credit) : PortsHear s (u.deliverCredit l dst src limit) := by
  unfold State.deliverCredit
  dsimp only
  split
  · split <;> exact h
  · exact h

/-! ### Link frames -/

theorem takeLinkOpen (sender : Byte) (window : Nat) : PortsHear s (u.takeLinkOpen l sender window) := by
  unfold State.takeLinkOpen
  dsimp only
  split
  · exact h.establish _ _
  · exact h.establish _ _
  · unfold State.openInUp
    split
    · exact h
    · dsimp only
      rw [postLinkReason_eq]
      exact (h.teardown l .peerRestart).postLink l _ rfl
  all_goals exact h

theorem takeLinkAccept (echoed sender : Byte) (window : Nat) : PortsHear s (u.takeLinkAccept l echoed sender window) := by
  unfold State.takeLinkAccept
  dsimp only
  split
  · split
    · exact h.establish _ _
    · exact h
  all_goals exact h

theorem takeLinkClose : PortsHear s (u.takeLinkClose l) := by
  unfold State.takeLinkClose
  split
  · have torn := h.teardown l .peerStopped
    generalize u.teardown l .peerStopped = t at torn
    exact PortsHear.enterDown (u := t.setLink l _) torn _
  · exact PortsHear.completeStop (u := u.setLink l _) h _
  all_goals exact h

theorem takeLinkClosed : PortsHear s (u.takeLinkClosed l) := by
  unfold State.takeLinkClosed
  split
  · exact h.completeStop _
  all_goals exact h

/-! ### Line-ready, expiries and the commands of a link -/

theorem lineLost (l : LinkId) : PortsHear s (u.lineLost l) := by
  unfold State.lineLost
  split
  · exact h.enterFailed _
  · exact (h.teardown l .lineLost).enterFailed _
  · exact h.completeStop _
  all_goals exact h

theorem respExpired (l : LinkId) : PortsHear s (u.respExpired l) := by
  unfold State.respExpired
  dsimp only
  split
  · split
    · exact h.enterFailed _
    · exact h
  · split
    · exact h.completeStop _
    · exact h
  · split
    · exact (h.teardown l .retryExhausted).enterFailed _
    · exact h
  all_goals exact h

theorem stopLink (l : LinkId) : PortsHear s (u.stopLink l) := by
  unfold State.stopLink
  split
  · exact h.enterDown _
  · exact h.enterDown _
  · exact PortsHear.enterDown (u := u.setLink l _) h _
  · have torn := h.teardown l .stopped
    generalize u.teardown l .stopped = t at torn
    exact torn
  all_goals exact h

/-! ### The line ports and the arbiter -/

theorem receiveLevels (l : LinkId) (levels : List Bool) : PortsHear s (u.receiveLevels l levels) := by
  unfold State.receiveLevels
  dsimp only
  split
  · exact h
  · refine List.foldlRecOn _ _ h fun w hw c _ => ?_
    rw [receiveChar_eq]
    exact hw

theorem take (l : LinkId) (t : Taking) : PortsHear s (u.take l t) := by
  cases t with
  | data i m =>
    unfold State.take State.takeData
    dsimp only
    split <;> exact h
  | link | statusFrame | resend | retransmit | answer | ready | plainStatus => exact h

theorem arbitrate (l : LinkId) : PortsHear s (u.arbitrate l) := by
  unfold State.arbitrate
  dsimp only
  split
  · split
    · exact h.take l _
    · exact h
  · exact h

/-- The arbiters read and change no port (R73). -/
theorem settle : PortsHear s u.settle := (h.arbitrate 0).arbitrate 1

end Operations

theorem tick (s : State) : PortsHear s s.tick := by
  unfold State.tick
  split
  · exact .refl s
  · exact .refl s

end PortsHear
end Sys2Proof.Machine
end

section
/-! SUPPORT. The law of a host port across the points of a transaction (R149 to R153, R157, R163), and the ports as the end of a session
(R159), a complete read (R157) and the host port reset (R160) leave them. -/

namespace Sys2Proof.Machine

/-! ## The transactions of a port -/

/-- What the law of port `x` asks of its transaction `t` (R153, R157, R163). -/
structure HostPort.Allows (x : HostPort) (t : Txn) : Prop where
  room : ∀ h st, t = .writeBody h st → x.responses.length < 8
  chosenResponse : ∀ r, t = .readResponse (some r) → x.responses.head? = some r
  chosenEvent : ∀ e n, t = .readEvent (some e) n →
    n ≤ 65535 ∧ (e.kind ≠ .overflow → x.events.head? = some e) ∧ (e.kind = .overflow → ∃ a, x.events = [{ e with arg := a }])
  staging : ∀ h st, t = .writeBody h st → st.fits h x.session

namespace HostPort
variable {x : HostPort}

theorem allows_ignore (x : HostPort) : x.Allows .ignore := by constructor <;> nofun
theorem allows_code (x : HostPort) (b : Byte) : x.Allows (.code b) := by constructor <;> nofun

namespace Ok

/-- A transaction goes on (R150). -/
theorem proceeds (h : x.Ok) (running : x.session ≠ .reset) {t : Txn} (ht : x.Allows t) {low : Bool} (hl : low = true) (drop : Bool)
    (bs : List Byte) : ({ x with csLow := low, txn := t, drop, hso := bs } : HostPort).Ok :=
  { h.eventsOk, ht with
    responses := h.responses
    noSession := h.noSession
    inReset := fun reset => absurd reset running
    idle := fun high => absurd (hl.symm.trans high) nofun }

/-- A transaction ends (R150). -/
theorem ends (h : x.Ok) (bs : List Byte) : ({ x with csLow := false, txn := .idle, hso := bs } : HostPort).Ok :=
  { h.eventsOk with
    responses := h.responses
    noSession := h.noSession
    inReset := fun reset => by
      obtain ⟨responses, drop, -⟩ := h.inReset reset
      exact ⟨responses, drop, .inl rfl⟩
    idle := fun _ => rfl
    room := nofun, chosenResponse := nofun, chosenEvent := nofun, staging := nofun }

/-- Bytes are returned in a transaction. -/
theorem returns (h : x.Ok) (bs : List Byte) : ({ x with hso := bs } : HostPort).Ok := { h with }

/-- A port that is not in RESET, between transactions: the laws of its queues. -/
theorem resting {session : Session} {responses : List Response} {events : List Event} (running : session ≠ .reset)
    (hr : responses.length ≤ 8) (he : EventsOk events) (hs : session ≠ .attached → events = []) (drop low : Bool) (bs : List Byte) :
    ({ session, responses, events, drop, txn := .idle, csLow := false, hrstLow := low, hso := bs } : HostPort).Ok :=
  { he with
    responses := hr
    noSession := hs
    inReset := fun reset => absurd reset running
    idle := fun _ => rfl
    room := nofun, chosenResponse := nofun, chosenEvent := nofun, staging := nofun }

/-- A port with both queues empty takes up its pins outside a transaction (R160, R161, R169). -/
theorem cleared (session : Session) (csLow hrstLow : Bool) (bs : List Byte) :
    ({ session, responses := [], events := [], drop := false, txn := restingTxn csLow, csLow, hrstLow, hso := bs } : HostPort).Ok := by
  have resting : restingTxn csLow = .idle ∨ restingTxn csLow = .ignore := by cases csLow <;> simp [restingTxn]
  exact { EventsOk.nil with
    responses := Nat.zero_le _
    noSession := fun _ => rfl
    inReset := fun _ => ⟨rfl, rfl, resting⟩
    idle := fun high => by replace high : csLow = false := high; simp [high, restingTxn]
    room := fun _ _ e => by rcases resting with r | r <;> cases r.symm.trans e
    chosenResponse := fun _ e => by rcases resting with r | r <;> cases r.symm.trans e
    chosenEvent := fun _ _ e => by rcases resting with r | r <;> cases r.symm.trans e
    staging := fun _ _ e => by rcases resting with r | r <;> cases r.symm.trans e }

/-- A port held by device reset, whatever the levels of its pins (R169). -/
theorem held (x : HostPort) : x.held.Ok :=
  { EventsOk.nil with
    responses := Nat.zero_le _
    noSession := fun _ => rfl
    inReset := nofun
    idle := fun _ => rfl
    room := nofun, chosenResponse := nofun, chosenEvent := nofun, staging := nofun }

/-- The code byte chooses the head of a queue (R157, R163): an OVERFLOW record at the head is alone. -/
theorem allows_afterCode (h : x.Ok) (code : Byte) : x.Allows (x.afterCode code) := by
  unfold HostPort.afterCode
  split_ifs
  · constructor <;> nofun
  · constructor <;> nofun
  · exact ⟨nofun, fun r chosen => by simpa using chosen, nofun, nofun⟩
  · refine ⟨nofun, nofun, fun e n chosen => ?_, nofun⟩
    obtain ⟨head, rfl⟩ : x.events.head? = some e ∧ 0 = n := by simpa using chosen
    refine ⟨Nat.zero_le _, fun _ => head, fun overflow => ⟨e.arg, ?_⟩⟩
    obtain ⟨rest, events⟩ := List.head?_eq_some_iff.mp head
    cases rest with
    | nil => exact events
    | cons d rest => exact absurd overflow (ordinary_iff.mp (h.overflowLast e (by simp [events])))
  · exact x.allows_ignore

/-- A complete read of an event leaves a lawful queue (R163). -/
theorem eventsAfterRead (h : x.Ok) {e : Event} {n : Nat} (ht : x.txn = .readEvent (some e) n) : EventsOk (eventsAfterRead e n x.events) := by
  obtain ⟨max, -, alone⟩ := h.chosenEvent e n ht
  unfold Machine.eventsAfterRead
  split
  · next counted =>
    obtain ⟨a, events⟩ := alone counted.1
    rw [events]
    exact .overflow (Nat.pos_of_ne_zero counted.2) max
  · exact h.eventsOk.tail

end Ok
end HostPort

/-! ## The end of a session -/

/-- A record given up changes no port (R135). -/
theorem giveUp_ports (s : State) (i : ChanId) : (s.giveUp i).ports = s.ports := by
  have aborted : (s.abortChan i).ports = s.ports := by rw [abortChan_eq, serve_ports]; rfl
  unfold State.giveUp
  dsimp only
  split
  · rfl
  · rw [serve_ports]; rfl
  · split
    · rw [serve_ports]; rfl
    · exact aborted
  · exact aborted
  · exact aborted
  · rfl
  · rfl

theorem endSessionRecords_ports (s : State) (p : Slot) : (s.endSessionRecords p).ports = s.ports := by
  refine List.foldlRecOn (motive := fun u : State => u.ports = s.ports) _ _ rfl fun u hu i _ => ?_
  split
  · exact (giveUp_ports u i).trans hu
  · exact hu

/-- A controller role given up is posted to the other ports, unless the link is in DOWN (R34). -/
theorem vacate_port (s : State) (p q : Slot) (l : LinkId) : (s.vacate p l).port q =
    if q ≠ p ∧ (s.link l).controller = some p ∧ (s.link l).state ≠ .down then
      (s.port q).post (linkEvent l .linkVacant none 0) else s.port q := by
  unfold State.vacate
  dsimp only
  by_cases role : (s.link l).controller = some p
  · by_cases down : (s.link l).state = .down
    · simp [role, down]
    · by_cases own : q = p <;> simp [role, down, own, postOthers_port]
  · simp [role]

/-- The port whose session ends (R159). -/
theorem endSession_port_self (s : State) (p : Slot) :
    (s.endSession p).port p = { s.port p with events := [], session := .detached } := by
  have records : (s.endSessionRecords p).port p = s.port p := by simp only [State.port, endSessionRecords_ports]
  have vacated : (((s.endSessionRecords p).vacate p 0).vacate p 1).port p = s.port p := by simp [vacate_port, records]
  rw [State.endSession, State.updPort, port_setPort, vacated]

/-- The end of a session posts to the other ports, and then empties the event queue of its own (R159). -/
theorem endSession_hears (s : State) (p : Slot) :
    ∃ w, PortsHear s w ∧ s.endSession p = w.setPort p { w.port p with events := [], session := .detached } :=
  ⟨_, (((PortsHear.refl s).endSessionRecords p).vacate p 0).vacate p 1, rfl⟩

/-! ## Responses read and freed -/

/-- Freeing received messages with the serving of the credit-owed list does not consult a host port. -/
theorem freed_setPort (s : State) (p : Slot) (x : HostPort) (ms : List RxMsg) :
    ((s.setPort p x).freeRxMsgs ms).serve = (s.freeRxMsgs ms).serve.setPort p x := by
  rw [freeRxMsgs_setPort, serve_setPort]

/-- A response read to its end: its message is freed (R94, R157), it leaves the queue, and chip select rises. -/
theorem removeResponse_rise (s : State) (p : Slot) (r : Response) (bs : List Byte) : ∃ w, PortsHear s w ∧ w.ports = s.ports
    ∧ (s.removeResponse p r).rise p bs = w.setPort p
      { w.port p with responses := (w.port p).responses.tail, csLow := false, txn := .idle, hso := (w.port p).hso ++ bs }
    ∧ w = match r.msg with | some m => (s.freeRxMsgs [m]).serve | none => s := by
  cases hm : r.msg with
  | none =>
    refine ⟨s, .refl s, rfl, ?_, rfl⟩
    simp [State.removeResponse, hm, State.rise, State.updPort]
  | some m =>
    refine ⟨(s.freeRxMsgs [m]).serve, PortsHear.serve (u := s.freeRxMsgs [m]) (.refl s), serve_ports _, ?_, rfl⟩
    simp [State.removeResponse, hm, State.rise, State.updPort, freed_setPort]

/-! ## Host port reset (R160) -/

@[simp] theorem freeStaged_port (s : State) (p q : Slot) (st : Staging) : (s.freeStaged p st).port q = s.port q := by
  cases st with
  | granted n => simp [State.freeStaged]
  | none | refused _ => rfl

/-- A port after the assertion of HRSTn (R160). -/
def HostPort.afterReset (x : HostPort) : HostPort :=
  { session := .reset, responses := [], events := [], drop := false, txn := restingTxn x.csLow, csLow := x.csLow, hrstLow := true, hso := [] }

section ResetPort
variable {s : State} {p : Slot}

/-- The reset of an attached port ends its session, and then frees the messages of its responses. -/
theorem resetPort_attached (h : (s.port p).session = .attached) : s.resetPort p =
    (((s.freeStaged p (s.port p).txn.staging).endSession p).freeRxMsgs (heldMsgs (s.port p).responses)).serve.setPort p
      (s.port p).afterReset := by
  simp [State.resetPort, h, endSession_port_self, State.updPort, HostPort.afterReset]

theorem resetPort_unattached (h : (s.port p).session ≠ .attached) : s.resetPort p =
    ((s.freeStaged p (s.port p).txn.staging).freeRxMsgs (heldMsgs (s.port p).responses)).serve.setPort p (s.port p).afterReset := by
  simp [State.resetPort, h, State.updPort, HostPort.afterReset]

end ResetPort

end Sys2Proof.Machine
end

section
/-! SUPPORT. Every step keeps the law of the host ports (R149, R153, R162, R163), command by command: the commands of a port by what they
make of that port, all others by what the ports hear of them. -/

namespace Sys2Proof.Machine

/-- Of port `p` a request leaves an attached port with its events, or a detached port without events, and of the other ports what they
have heard (R158, R159). -/
def State.Seats (s : State) (p : Slot) (u : State) : Prop :=
  ∃ w session events, PortsHear s w ∧ u = w.setPort p { w.port p with session, events }
    ∧ (session = .attached ∧ events = (w.port p).events ∨ session = .detached ∧ events = [])

theorem State.portLive_iff {s : State} {p : Slot} : s.portLive p = true ↔ s.resetLow = false ∧ (s.port p).session ≠ .reset := by
  simp [State.portLive]

namespace State.PortsOk
variable {s u : State} {p : Slot}

/-- Posts keep the law of the ports; while RESET is low no port hears them (R162, R169). -/
theorem hear (h : s.PortsOk) (heard : PortsHear s u) : u.PortsOk := by
  obtain ⟨low, port⟩ := heard
  refine ⟨fun q => (port q).ok (h.ok q), fun held q => ?_, fun running q => ?_⟩
  · have rests := h.held (low ▸ held) q
    have silent : (s.port q).session ≠ .attached := by rw [rests]; nofun
    rw [(port q).eq_of_no_session silent]
    exact rests
  · rw [(port q).session, (port q).hrstLow]
    exact h.pin (low ▸ running) q

/-- A lawful port in the place of a port. -/
theorem setPort (h : s.PortsOk) {x : HostPort} (ok : x.Ok) (held : s.resetLow = true → x = x.held)
    (pin : s.resetLow = false → (x.session = .reset ↔ x.hrstLow = true)) : (s.setPort p x).PortsOk := by
  refine ⟨fun q => ?_, fun low q => ?_, fun running q => ?_⟩
  all_goals rw [port_setPort_ite]; split
  · exact ok
  · exact h.ok q
  · exact held low
  · exact h.held low q
  · exact pin running
  · exact h.pin running q

/-- A lawful port, not in RESET, in the place of a port that takes transactions. -/
theorem setLive (h : s.PortsOk) (live : s.portLive p = true) {x : HostPort} (ok : x.Ok) (session : x.session ≠ .reset)
    (pin : x.hrstLow = (s.port p).hrstLow) : (s.setPort p x).PortsOk := by
  obtain ⟨running, notReset⟩ := State.portLive_iff.mp live
  refine h.setPort ok (fun low => absurd (low.symm.trans running) nofun) fun _ => ?_
  have high : ¬ (s.port p).hrstLow = true := fun low => notReset ((h.pin running p).mpr low)
  rw [pin]
  exact ⟨fun reset => absurd reset session, fun low => absurd low high⟩

/-- The transaction of a live port goes on (R150). -/
theorem proceeds (h : s.PortsOk) (live : s.portLive p = true) {t : Txn} (ht : (s.port p).Allows t) {low : Bool} (hl : low = true)
    (drop : Bool) (bs : List Byte) : (s.setPort p { s.port p with csLow := low, txn := t, drop, hso := bs }).PortsOk :=
  have running := (State.portLive_iff.mp live).2
  h.setLive live ((h.ok p).proceeds running ht hl drop bs) running rfl

/-- While RESET is low the levels of the pins alone change (R169). -/
theorem setPins (h : s.PortsOk) (low : s.resetLow = true) (csLow hrstLow : Bool) :
    (s.setPort p { s.port p with csLow, hrstLow }).PortsOk := by
  have rests := h.held low p
  refine h.setPort ?_ (fun _ => ?_) fun running => absurd (low.symm.trans running) nofun
  · rw [rests]
    exact HostPort.Ok.held { csLow, hrstLow }
  · rw [rests]
    rfl

/-- The transaction of a live port ends (R150). -/
theorem rise (h : s.PortsOk) (live : s.portLive p = true) (bs : List Byte) : (s.rise p bs).PortsOk :=
  h.setLive live ((h.ok p).ends _) (State.portLive_iff.mp live).2 rfl

/-- A transaction ends with nothing taken, in RESET and while RESET is low too (R150, R161, R169). -/
theorem riseIgnored (h : s.PortsOk) (p : Slot) (n : Nat) : (s.riseIgnored p n).PortsOk := by
  refine h.setPort ((h.ok p).ends _) (fun low => ?_) fun running => h.pin running p
  have silent : s.portLive p = false := by simp [State.portLive, low]
  have rests := h.held low p
  rw [rests, silent]
  rfl

theorem settle (h : s.PortsOk) : s.settle.PortsOk := h.hear (PortsHear.refl s).settle

theorem yields_heard {o : StepOutcome} (h : s.PortsOk) (ho : Yields o (PortsHear s)) : Yields o State.PortsOk :=
  fun t ht => h.hear (ho t ht)

/-! ## Commands of a transaction -/

/-- A command that ends a transaction, by its effect on the transaction in progress (R150). -/
theorem endTransaction {n : Nat} {act : Txn → Option State} (h : s.PortsOk)
    (ha : s.portLive p = true → ∀ u, act (s.port p).txn = some u → u.PortsOk) : Yields (s.endTransaction p n act) State.PortsOk := by
  unfold State.endTransaction
  split
  · exact yields_refused _
  split
  · exact yields_next (h.riseIgnored p n)
  next takes =>
    simp only [Bool.or_eq_true, Bool.not_eq_true', not_or, Bool.not_eq_false] at takes
    split
    · exact yields_next (ha takes.1 _ ‹_›)
    · exact yields_refused _

/-- A command that completes bytes inside a transaction, by its effect on the transaction in progress (R150). -/
theorem midTransaction {n : Nat} {act : Txn → Option State} (h : s.PortsOk)
    (ha : s.portLive p = true → (s.port p).csLow = true → ∀ u, act (s.port p).txn = some u → u.PortsOk) :
    Yields (s.midTransaction p n act) State.PortsOk := by
  unfold State.midTransaction
  dsimp only
  split
  · exact yields_next h
  next takes =>
    simp only [Bool.or_eq_true, Bool.not_eq_true', not_or, Bool.not_eq_false] at takes
    obtain ⟨low, live⟩ := takes
    split
    · exact yields_next (h.setLive live ((h.ok p).returns _) (State.portLive_iff.mp live).2 rfl)
    split
    · exact yields_next (ha live low _ ‹_›)
    · exact yields_refused _

/-! ## Requests -/

/-- A command that only posts leaves its port as it is. -/
theorem seats (h : s.PortsOk) (live : s.portLive p = true) (heard : PortsHear s u) : s.Seats p u := by
  have ok := (h.hear heard).ok p
  have running := (State.portLive_iff.mp ((heard.live p).trans live)).2
  refine ⟨u, (u.port p).session, (u.port p).events, heard, (setPort_port u p).symm, ?_⟩
  cases session : (u.port p).session with
  | attached => exact .inl ⟨rfl, rfl⟩
  | detached => exact .inr ⟨rfl, ok.noSession (by rw [session]; nofun)⟩
  | reset => exact absurd session running

/-- A request answered: there is room for its response (R153, R156). -/
theorem answered {hd : ReqHeader} {st : Staging} {r : Reply} {bs : List Byte} (h : s.PortsOk) (live : s.portLive p = true)
    (ht : (s.port p).txn = .writeBody hd st) (seated : s.Seats p u) : ((u.updPort p fun x => x.respond hd r).rise p bs).PortsOk := by
  obtain ⟨w, session, events, heard, rfl, kind⟩ := seated
  have lawful := h.hear heard
  have room := (h.ok p).room hd st ht
  rw [← (heard.2 p).responses] at room
  have queue : EventsOk events ∧ session ≠ .reset ∧ (session ≠ .attached → events = []) := by
    rcases kind with ⟨rfl, rfl⟩ | ⟨rfl, rfl⟩
    · exact ⟨(lawful.ok p).eventsOk, nofun, fun no => absurd rfl no⟩
    · exact ⟨.nil, nofun, fun _ => rfl⟩
  obtain ⟨lawfulEvents, running, noSession⟩ := queue
  unfold State.rise State.updPort
  simp only [port_setPort, setPort_setPort]
  refine lawful.setLive ((heard.live p).trans live) ?_ running rfl
  exact .resting running (by simp only [HostPort.respond, List.length_append, List.length_singleton]; omega) lawfulEvents noSession _ _ _

/-- A request, by what its command makes of the ports (R154 to R156). -/
theorem request {row : Byte → Bool} {body : List Byte} {act : Action} (h : s.PortsOk)
    (ha : s.portLive p = true → ∀ hd st, s.Seats p (act hd st s).1) : Yields (s.request p row body act) State.PortsOk := by
  refine h.endTransaction fun live u hu => ?_
  split at hu
  · next hd st ht =>
    obtain ⟨-, hu⟩ := Option.ite_none_right_eq_some.mp hu
    cases hu
    refine h.answered live ht ?_
    split
    · exact h.seats live ((PortsHear.refl s).freeStaged p st)
    · exact ha live hd st
  · cases hu

/-- A request whose command only posts. -/
theorem requestHeard {row : Byte → Bool} {body : List Byte} {act : Action} (h : s.PortsOk)
    (ha : ∀ hd st, PortsHear s (act hd st s).1) : Yields (s.request p row body act) State.PortsOk :=
  h.request fun live hd st => h.seats live (ha hd st)

theorem yields_settled {o : StepOutcome} (ho : Yields o State.PortsOk) : Yields (settled o) State.PortsOk :=
  Machine.yields_settled (fun _ => settle) ho

/-- ATTACH opens the session of a port whose event queue is as it was (R158). -/
theorem execAttach (h : s.PortsOk) (body : List Byte) : Yields (Machine.execAttach p body s) State.PortsOk := by
  refine h.request fun live hd st => ?_
  unfold State.doAttach
  split
  · exact h.seats live (.refl s)
  · exact ⟨s, .attached, (s.port p).events, .refl s, rfl, .inl ⟨rfl, rfl⟩⟩

/-- DETACH empties the event queue with the session (R159). -/
theorem execDetach (h : s.PortsOk) (body : List Byte) : Yields (Machine.execDetach p body s) State.PortsOk := by
  refine yields_settled (h.request fun _ _ _ => ?_)
  obtain ⟨w, heard, ends⟩ := endSession_hears s p
  exact ⟨w, .detached, [], heard, ends, .inr ⟨rfl, rfl⟩⟩

end State.PortsOk

namespace PortsHear
variable (s : State) (p : Slot) (body : List Byte) (hd : ReqHeader) (st : Staging)

theorem doLinkStart : PortsHear s (State.doLinkStart p body hd st s).1 := by
  unfold State.doLinkStart
  split
  · exact .refl s
  split
  · exact .refl s
  dsimp only
  split
  · exact .refl s
  · exact .refl s
  · exact .refl s
  · exact .refl s
  · exact .refl s
  · split <;> exact .refl s

theorem doLinkStop : PortsHear s (State.doLinkStop p body hd st s).1 := by
  unfold State.doLinkStop
  split
  · exact .refl s
  dsimp only
  split
  · exact .refl s
  split
  · exact .refl s
  · exact (refl s).stopLink _

theorem doLinkClaim : PortsHear s (State.doLinkClaim p body hd st s).1 := by
  unfold State.doLinkClaim
  split
  · exact .refl s
  dsimp only
  split
  · exact .refl s
  split
  · exact .refl s
  · split <;> exact .refl s

theorem doLinkQuery : PortsHear s (State.doLinkQuery body hd st s).1 := by unfold State.doLinkQuery; split <;> exact .refl s

theorem doChQuery : PortsHear s (State.doChQuery body hd st s).1 := by unfold State.doChQuery; split <;> exact .refl s

theorem doChListen : PortsHear s (State.doChListen p body hd st s).1 := by
  unfold State.doChListen
  dsimp only
  split
  · exact .refl s
  · split <;> exact .refl s

theorem doChOpen : PortsHear s (State.doChOpen p body hd st s).1 := by
  unfold State.doChOpen
  dsimp only
  split
  · exact .refl s
  split
  · exact .refl s
  · exact .refl s
  · split
    · exact .refl s
    · split <;> exact .refl s

theorem doChClose : PortsHear s (State.doChClose p body hd st s).1 := by
  unfold State.doChClose
  split
  · exact .refl s
  · split
    · exact .refl s
    · exact (refl s).closeRecord

theorem doChRelease : PortsHear s (State.doChRelease p body hd st s).1 := by
  unfold State.doChRelease
  split
  · exact .refl s
  dsimp only
  split
  · exact .refl s
  · exact (refl s).giveUp

theorem doSend : PortsHear s (State.doSend p body hd st s).1 := by
  unfold State.doSend
  split
  · exact (refl s).freeStaged p st
  · exact .refl s

theorem doRecv : PortsHear s (State.doRecv p body hd st s).1 := by
  unfold State.doRecv
  split
  · exact .refl s
  dsimp only
  split
  · exact .refl s
  split
  · exact .refl s
  · exact PortsHear.grant (u := s.popReceived _ _) (.refl s)

/-! ## Line events, received frames and expiries -/

variable (l : LinkId)

theorem execLineReadyDeasserted : Yields (Machine.execLineReadyDeasserted l s) (PortsHear s) := by
  have sampled : PortsHear s (s.keepSample l false) := .refl s
  unfold Machine.execLineReadyDeasserted
  dsimp only
  split
  · exact yields_next (sampled.lineLost l).settle
  · exact yields_next sampled

theorem execTransmitComplete : Yields (Machine.execTransmitComplete l s) (PortsHear s) := by
  unfold Machine.execTransmitComplete
  split
  · split
    · exact yields_refused _
    · exact yields_next (PortsHear.settle (u := (s.freeTransmitter l).count l _) (.refl s))
  · exact yields_refused _

theorem execTruncationComplete : Yields (Machine.execTruncationComplete l s) (PortsHear s) := by
  unfold Machine.execTruncationComplete
  split
  · split
    · exact yields_next (PortsHear.settle (u := s.freeTransmitter l) (.refl s))
    · exact yields_refused _
  · exact yields_refused _

theorem execTAckExpiry : Yields (Machine.execTAckExpiry l s) (PortsHear s) := by
  unfold Machine.execTAckExpiry
  dsimp only
  split
  · exact yields_next (PortsHear.settle (u := s.setLink l _) (.refl s))
  · exact yields_next (.refl s)

theorem execTRespExpiry : Yields (Machine.execTRespExpiry l s) (PortsHear s) := by
  unfold Machine.execTRespExpiry
  split
  · exact yields_next ((refl s).respExpired l).settle
  · exact yields_next (.refl s)

theorem execTIdleExpiry : Yields (Machine.execTIdleExpiry l s) (PortsHear s) := by
  unfold Machine.execTIdleExpiry
  dsimp only
  split
  · exact yields_next (PortsHear.settle (u := s.setLink l _) (.refl s))
  · exact yields_next (.refl s)

variable {s l}

/-- The row of a received frame, by what the ports hear of the frame (R146). -/
theorem takeHeld {act : Frame → Option (State → State)} (ha : ∀ f g, act f = some g → ∀ u, PortsHear s u → PortsHear s (g u)) :
    Yields (s.takeHeld l act) (PortsHear s) :=
  yields_takeHeld (fun _ => settle) (fun _ => .refl s) ha

theorem takeHeldSequenced {deliver : ChanId → ChanId → Content → Option (State → State)}
    (hd : ∀ dst src c g, deliver dst src c = some g → ∀ u, PortsHear s u → PortsHear s (g u)) :
    Yields (s.takeHeldSequenced l deliver) (PortsHear s) := by
  refine takeHeld fun f g hg u hu => ?_
  split at hg
  · obtain ⟨d, delivers, rfl⟩ := Option.map_eq_some_iff.mp hg
    exact hu.takeSequenced (hd _ _ _ _ delivers)
  · cases hg

theorem execLinkOpen : Yields (Machine.execLinkOpen l s) (PortsHear s) := by
  refine takeHeld fun f g hg u hu => ?_
  split at hg <;> cases hg
  exact hu.takeLinkOpen _ _

theorem execLinkAccept : Yields (Machine.execLinkAccept l s) (PortsHear s) := by
  refine takeHeld fun f g hg u hu => ?_
  split at hg <;> cases hg
  exact hu.takeLinkAccept _ _ _

theorem execLinkClose : Yields (Machine.execLinkClose l s) (PortsHear s) := by
  refine takeHeld fun f g hg u hu => ?_
  split at hg <;> cases hg
  exact hu.takeLinkClose

theorem execLinkClosed : Yields (Machine.execLinkClosed l s) (PortsHear s) := by
  refine takeHeld fun f g hg u hu => ?_
  split at hg <;> cases hg
  exact hu.takeLinkClosed

theorem execStatus : Yields (Machine.execStatus l s) (PortsHear s) := by
  refine takeHeld fun f g hg u hu => ?_
  split at hg <;> cases hg
  exact hu.withNr fun _ => id

theorem execResend : Yields (Machine.execResend l s) (PortsHear s) := by
  refine takeHeld fun f g hg u hu => ?_
  split at hg <;> cases hg
  exact hu.withNr fun _ => id

theorem execData : Yields (Machine.execData l s) (PortsHear s) := by
  refine takeHeldSequenced fun dst src c g hg u hu => ?_
  split at hg <;> cases hg
  exact hu.deliverData dst src _

theorem execChanOpen : Yields (Machine.execChanOpen l s) (PortsHear s) := by
  refine takeHeldSequenced fun dst src c g hg u hu => ?_
  split at hg <;> cases hg
  exact hu.deliverOpen dst src _

theorem execChanAccept : Yields (Machine.execChanAccept l s) (PortsHear s) := by
  refine takeHeldSequenced fun dst src c g hg u hu => ?_
  split at hg <;> cases hg
  exact hu.deliverAccept dst src _

theorem execChanRefuse : Yields (Machine.execChanRefuse l s) (PortsHear s) := by
  refine takeHeldSequenced fun dst src c g hg u hu => ?_
  split at hg <;> cases hg
  exact hu.deliverRefuse dst src _

theorem execChanClose : Yields (Machine.execChanClose l s) (PortsHear s) := by
  refine takeHeldSequenced fun dst src c g hg u hu => ?_
  split at hg <;> cases hg
  exact hu.deliverClose dst src _

theorem execChanClosed : Yields (Machine.execChanClosed l s) (PortsHear s) := by
  refine takeHeldSequenced fun dst src c g hg u hu => ?_
  split at hg <;> cases hg
  exact hu.deliverClosed dst src

theorem execChanCredit : Yields (Machine.execChanCredit l s) (PortsHear s) := by
  refine takeHeldSequenced fun dst src c g hg u hu => ?_
  split at hg <;> cases hg
  exact hu.deliverCredit dst src _

end PortsHear

/-! ## Transactions without a request -/

/-- What the staging claim of a header leaves fits its request (R92, R108). -/
theorem stagingClaim_fits (s : State) (p : Slot) (h : ReqHeader) (session : Session) :
    (if h.code = 0x30#8 ∧ session = .attached then s.stagingClaim p h.len.toNat else (s, Staging.none)).2.fits h session := by
  split
  · next sends =>
    obtain ⟨code, attached⟩ := sends
    by_cases range : h.len.toNat < 4 ∨ 1027 < h.len.toNat
    · rw [stagingClaim_none range]
      rintro ⟨-, -, low, high⟩
      omega
    have claims : h.code = 0x30#8 ∧ session = .attached ∧ 4 ≤ h.len.toNat ∧ h.len.toNat ≤ 1027 := ⟨code, attached, by omega, by omega⟩
    simp only [State.stagingClaim, if_neg range]
    cases refusal : s.pool.stagingRefusal p (blocksOf (h.len.toNat - 3)) with
    | none => exact ⟨claims, rfl⟩
    | some r =>
      refine ⟨claims, ?_⟩
      unfold Pool.stagingRefusal at refusal
      split_ifs at refusal <;> cases refusal <;> simp
  · next other => exact fun claims => other ⟨claims.1, claims.2.1⟩

theorem stagingClaim_hears (s : State) (p : Slot) (len : Nat) (c : Prop) [Decidable c] :
    PortsHear s (if c then s.stagingClaim p len else (s, Staging.none)).1 := by
  unfold State.stagingClaim
  split
  · split
    · exact .refl s
    · dsimp only; split <;> exact .refl s
  · exact .refl s

namespace State.PortsOk
variable {s : State} {p : Slot}

theorem execChipSelectFalls (h : s.PortsOk) : Yields (Machine.execChipSelectFalls p s) State.PortsOk := by
  have ok := h.ok p
  unfold Machine.execChipSelectFalls
  dsimp only
  split
  · exact yields_refused _
  next high =>
  have idle := ok.idle (by simpa using high)
  split
  · next low => exact yields_next (h.setPins low true _)
  next running =>
  split
  · next reset =>
    obtain ⟨responses, drop, -⟩ := ok.inReset reset
    have events := ok.noSession (by rw [reset]; nofun)
    refine yields_next (h.setPort ?_ (fun low => absurd low running) fun low => h.pin low p)
    rw [responses, drop, events]
    exact .cleared _ true _ _
  · next live =>
    exact yields_next (h.proceeds (State.portLive_iff.mpr ⟨by simpa using running, live⟩) (HostPort.allows_code ..) rfl _ _)

theorem execTransactionCode (h : s.PortsOk) (code : Byte) : Yields (Machine.execTransactionCode p code s) State.PortsOk := by
  refine h.midTransaction fun live low u e => ?_
  split at e <;> cases e
  exact h.proceeds live ((h.ok p).allows_afterCode code) low _ _

/-- The header of a request is complete: it is dropped, or there is room for its response (R153). -/
theorem execWriteRequestHeader (h : s.PortsOk) (tag code : Byte) (len : Byte × Byte) :
    Yields (Machine.execWriteRequestHeader p tag code len s) State.PortsOk := by
  unfold Machine.execWriteRequestHeader
  dsimp only
  refine h.midTransaction fun live low u e => ?_
  split at e
  · split at e <;> cases e
    · exact h.proceeds live (HostPort.allows_ignore _) low true _
    · next room =>
      have fits := stagingClaim_fits s p { tag, code, len := BitVec.ofNat 16 (fromBe16 len.1 len.2) } (s.port p).session
      have heard := stagingClaim_hears s p (BitVec.ofNat 16 (fromBe16 len.1 len.2)).toNat (code = 0x30#8 ∧ (s.port p).session = .attached)
      have running := (State.portLive_iff.mp live).2
      refine (h.hear heard).setLive ((heard.live p).trans live) ?_ running ((heard.2 p).hrstLow.symm ▸ rfl)
      exact (h.ok p).proceeds running (t := .writeBody _ _)
        ⟨fun _ _ _ => Nat.not_le.mp room, nofun, nofun, fun _ _ e => by cases e; exact fits⟩ low _ _
  · cases e

theorem execStatusTransaction (h : s.PortsOk) (n : Nat) : Yields (Machine.execStatusTransaction p n s) State.PortsOk := by
  refine h.endTransaction fun live u e => ?_
  split at e <;> cases e
  exact h.rise live _

theorem execIgnoredTransactionEnd (h : s.PortsOk) (n : Nat) : Yields (Machine.execIgnoredTransactionEnd p n s) State.PortsOk := by
  refine h.endTransaction fun live u e => ?_
  split at e <;> cases e
  all_goals exact h.rise live _

/-- A response read to its end leaves the queue (R157). -/
theorem execReadResponse (h : s.PortsOk) (n : Nat) : Yields (Machine.execReadResponse p n s) State.PortsOk := by
  refine yields_settled (h.endTransaction fun live u e => ?_)
  split at e
  · cases e
    exact h.rise live _
  · next r _ =>
    cases e
    split
    · obtain ⟨w, heard, -, rises, -⟩ := removeResponse_rise s p r (firstOf n r.bytes)
      rw [rises]
      have lawful := h.hear heard
      have ok := lawful.ok p
      have running := (State.portLive_iff.mp ((heard.live p).trans live)).2
      refine lawful.setLive ((heard.live p).trans live) ?_ running rfl
      exact .resting running ((List.tail_sublist _).length_le.trans ok.responses) ok.eventsOk ok.noSession _ _ _
    · exact h.rise live _
  · cases e

/-- An event read to its end leaves the queue, or stays as the OVERFLOW record of the posts counted (R163). -/
theorem execReadEvent (h : s.PortsOk) (n : Nat) : Yields (Machine.execReadEvent p n s) State.PortsOk := by
  have ok := h.ok p
  refine h.endTransaction fun live u e => ?_
  split at e
  · cases e
    exact h.rise live _
  · next c m read =>
    cases e
    split
    · unfold State.updPort State.rise
      rw [port_setPort, setPort_setPort]
      have running := (State.portLive_iff.mp live).2
      refine h.setLive live ?_ running rfl
      refine .resting running ok.responses (ok.eventsAfterRead read) (fun no => ?_) _ _ _
      have none := ok.noSession no
      obtain ⟨-, head, only⟩ := ok.chosenEvent c m read
      by_cases overflow : c.kind = .overflow
      · obtain ⟨a, alone⟩ := only overflow
        cases none.symm.trans alone
      · have first := head overflow
        rw [none] at first
        cases first
    · exact h.rise live _
  · cases e

/-! ## Resets -/

/-- Host port reset: the port is in RESET with both queues empty, and the others have heard of its session's end (R160). -/
theorem resetPort_hears (s : State) (p : Slot) : ∃ w, PortsHear s w ∧ s.resetPort p = w.setPort p (s.port p).afterReset := by
  have staged := (PortsHear.refl s).freeStaged p (s.port p).txn.staging
  by_cases attached : (s.port p).session = .attached
  · obtain ⟨w, heard, ends⟩ := endSession_hears (s.freeStaged p (s.port p).txn.staging) p
    have freed : PortsHear s (w.freeRxMsgs (heldMsgs (s.port p).responses)) := staged.trans heard
    rw [resetPort_attached attached, ends, freed_setPort, setPort_setPort]
    exact ⟨_, freed.serve, rfl⟩
  · rw [resetPort_unattached attached]
    exact ⟨_, PortsHear.serve (u := (s.freeStaged p (s.port p).txn.staging).freeRxMsgs _) staged, rfl⟩

theorem execHostPortReset (h : s.PortsOk) : Yields (Machine.execHostPortReset p s) State.PortsOk := by
  unfold Machine.execHostPortReset
  split
  · next low => exact yields_next (h.setPins low _ true)
  · next running =>
    obtain ⟨w, heard, resets⟩ := resetPort_hears s p
    rw [resets]
    refine yields_next (settle ((h.hear heard).setPort (.cleared ..) (fun low => ?_) fun _ => ⟨fun _ => rfl, fun _ => rfl⟩))
    exact absurd (heard.1.symm.trans low) running

theorem execHostPortResetRelease (h : s.PortsOk) : Yields (Machine.execHostPortResetRelease p s) State.PortsOk := by
  unfold Machine.execHostPortResetRelease
  split
  · exact yields_refused _
  split
  · next low => exact yields_next (h.setPins low _ false)
  · next running => exact yields_next (h.setPort (.cleared ..) (fun low => absurd low running) fun _ => ⟨nofun, nofun⟩)

theorem execDeviceReset : Yields (Machine.execDeviceReset s) State.PortsOk := by
  have port (q : Slot) : (s.ports.map HostPort.held)[q] = (s.port q).held := by simp [State.port]
  refine yields_next ⟨fun q => ?_, fun _ q => ?_, nofun⟩
  · show HostPort.Ok (s.ports.map HostPort.held)[q]
    rw [port]
    exact .held _
  · show (s.ports.map HostPort.held)[q] = HostPort.held (s.ports.map HostPort.held)[q]
    rw [port]
    rfl

/-- As RESET is deasserted each port takes up the levels of its pins (R169). -/
theorem execDeviceResetRelease (h : s.PortsOk) : Yields (Machine.execDeviceResetRelease s) State.PortsOk := by
  unfold Machine.execDeviceResetRelease
  split
  · next low =>
    have port (q : Slot) : (s.ports.map HostPort.afterDeviceReset)[q] = (s.port q).held.afterDeviceReset := by
      rw [← h.held low q]; simp [State.port]
    refine yields_next ⟨fun q => ?_, nofun, fun _ q => ?_⟩
    · show HostPort.Ok (s.ports.map HostPort.afterDeviceReset)[q]
      rw [port]
      exact .cleared ..
    · show HostPort.session (s.ports.map HostPort.afterDeviceReset)[q] = .reset
        ↔ HostPort.hrstLow (s.ports.map HostPort.afterDeviceReset)[q] = true
      rw [port]
      cases pin : (s.port q).hrstLow <;> simp [HostPort.afterDeviceReset, HostPort.held, pin]
  · exact yields_refused _

/-! ## The rows of the table -/

/-- Every command keeps the law of the host ports. -/
theorem exec (h : s.PortsOk) (c : Instr) : Yields (Machine.exec c s) State.PortsOk := by
  cases c with
  | attach p body => exact h.execAttach body
  | detach p body => exact h.execDetach body
  | linkStart p body => exact yields_settled (h.requestHeard (.doLinkStart s p body))
  | linkStop p body => exact yields_settled (h.requestHeard (.doLinkStop s p body))
  | linkClaim p body => exact (h.requestHeard (.doLinkClaim s p body) : Yields (Machine.execLinkClaim p body s) _)
  | linkQuery p body => exact (h.requestHeard (.doLinkQuery s body) : Yields (Machine.execLinkQuery p body s) _)
  | chListen p body => exact (h.requestHeard (.doChListen s p body) : Yields (Machine.execChListen p body s) _)
  | chOpen p body => exact yields_settled (h.requestHeard (.doChOpen s p body))
  | chClose p body => exact yields_settled (h.requestHeard (.doChClose s p body))
  | chRelease p body => exact yields_settled (h.requestHeard (.doChRelease s p body))
  | chQuery p body => exact (h.requestHeard (.doChQuery s body) : Yields (Machine.execChQuery p body s) _)
  | send p body => exact yields_settled (h.requestHeard (.doSend s p body))
  | recv p body => exact yields_settled (h.requestHeard (.doRecv s p body))
  | poolQuery p body => exact (h.requestHeard fun _ _ => .refl s : Yields (Machine.execPoolQuery p body s) _)
  | unknownCommand p body => exact (h.requestHeard fun _ _ => .refl s : Yields (Machine.execUnknownCommand p body s) _)
  | transactionCode p code => exact h.execTransactionCode code
  | statusTransaction p n => exact h.execStatusTransaction n
  | writeRequestHeader p tag code len => exact h.execWriteRequestHeader tag code len
  | readResponse p n => exact h.execReadResponse n
  | readEvent p n => exact h.execReadEvent n
  | hostPortReset p => exact h.execHostPortReset
  | hostPortResetRelease p => exact h.execHostPortResetRelease
  | deviceReset => exact execDeviceReset
  | deviceResetRelease => exact h.execDeviceResetRelease
  | chipSelectFalls p => exact h.execChipSelectFalls
  | ignoredTransactionEnd p n => exact h.execIgnoredTransactionEnd n
  | lineReadyDeasserted l => exact h.yields_heard (.execLineReadyDeasserted s l)
  | lineReadyAsserted l => exact h.yields_heard (yields_next (.refl s))
  | frameBodyStart l b => exact h.yields_heard (yields_next ((PortsHear.refl s).receiveLevels l _))
  | frameEnd l | huntDelimiter l => exact h.yields_heard (yields_next ((PortsHear.refl s).receiveLevels l _))
  | bodyCharacter l levels => exact h.yields_heard (yields_next ((PortsHear.refl s).receiveLevels l _))
  | transmitComplete l => exact h.yields_heard (.execTransmitComplete s l)
  | truncationComplete l => exact h.yields_heard (.execTruncationComplete s l)
  | linkOpen l => exact h.yields_heard .execLinkOpen
  | linkAccept l => exact h.yields_heard .execLinkAccept
  | linkClose l => exact h.yields_heard .execLinkClose
  | linkClosed l => exact h.yields_heard .execLinkClosed
  | status l => exact h.yields_heard .execStatus
  | resend l => exact h.yields_heard .execResend
  | data l => exact h.yields_heard .execData
  | chanOpen l => exact h.yields_heard .execChanOpen
  | chanAccept l => exact h.yields_heard .execChanAccept
  | chanRefuse l => exact h.yields_heard .execChanRefuse
  | chanClose l => exact h.yields_heard .execChanClose
  | chanClosed l => exact h.yields_heard .execChanClosed
  | chanCredit l => exact h.yields_heard .execChanCredit
  | tAckExpiry l => exact h.yields_heard (.execTAckExpiry s l)
  | tRespExpiry l => exact h.yields_heard (.execTRespExpiry s l)
  | tIdleExpiry l => exact h.yields_heard (.execTIdleExpiry s l)

end State.PortsOk

/-- Settles O4: every command keeps the law, and no port sees a tick. -/
theorem stepKeepsPorts : Obligations.StepKeepsPorts := by
  intro s t h ht
  unfold step at ht
  split at ht
  · next c rest _ =>
    have waiting : PortsHear s { s with pending := rest } := .refl s
    exact (h.hear waiting).exec c t ht
  · cases ht
    exact h.hear (.tick s)

end Sys2Proof.Machine
end

section
/-! SUPPORT. The transactions of a host port: the status byte (R151), the ends of the transactions (R150, R152), the reads (R157, R163)
and the host port reset (R160, R161). -/

namespace Sys2Proof.Machine

/-! ## The status byte (R151) -/

/-- A byte of four flags in its high half and a number in its low half gives each of them back. -/
theorem flags_byteOf : ∀ (a b c d : Bool) (n : Fin 16),
    let byte := byteOf (bit a 7 + bit b 6 + bit c 5 + bit d 4 + n.val)
    byte.getLsbD 7 = a ∧ byte.getLsbD 6 = b ∧ byte.getLsbD 5 = c ∧ byte.getLsbD 4 = d ∧ byte.toNat % 16 = n.val := by
  decide

/-- The bits of the status byte of a port with at most 8 responses (R151). -/
theorem statusByte_reads {x : HostPort} (h : x.responses.length ≤ 8) :
    (x.statusByte.getLsbD 7 = true ↔ x.session = .attached) ∧ (x.statusByte.getLsbD 6 = true ↔ x.events ≠ [])
    ∧ (x.statusByte.getLsbD 5 = true ↔ x.drop = true) ∧ (x.statusByte.getLsbD 4 = true ↔ ∃ e ∈ x.events, e.kind = .overflow)
    ∧ x.statusByte.toNat % 16 = x.responses.length := by
  have few : x.responses.length % 16 = x.responses.length := Nat.mod_eq_of_lt (by omega)
  obtain ⟨att, evt, drop, ovf, count⟩ := flags_byteOf (x.session = .attached) (!x.events.isEmpty) x.drop
    (x.events.any fun e => e.kind = .overflow) ⟨x.responses.length % 16, Nat.mod_lt _ (by decide)⟩
  unfold HostPort.statusByte
  refine ⟨?_, ?_, ?_, ?_, count.trans few⟩
  · rw [att]; simp
  · rw [evt]; simp
  · rw [drop]
  · rw [ovf]; simp

/-! ## The code byte (R150) -/

section AfterCode
variable (x : HostPort)
theorem afterCode_status : x.afterCode 0x01#8 = .statusTail x.events.length := rfl
theorem afterCode_write : x.afterCode 0x02#8 = .writeHeader := rfl
theorem afterCode_readResponse : x.afterCode 0x03#8 = .readResponse x.responses.head? := rfl
theorem afterCode_readEvent : x.afterCode 0x04#8 = .readEvent x.events.head? 0 := rfl

/-- Any other code byte leads to IGNORE (Table 9-2). -/
theorem afterCode_other {code : Byte} (h : 4 < code.toNat ∨ code = 0x00#8) : x.afterCode code = .ignore := by
  have other : code ≠ 0x01#8 ∧ code ≠ 0x02#8 ∧ code ≠ 0x03#8 ∧ code ≠ 0x04#8 := by
    refine ⟨?_, ?_, ?_, ?_⟩ <;> rintro rfl <;> revert h <;> decide
  obtain ⟨status, write, response, event⟩ := other
  simp [HostPort.afterCode, status, write, response, event]

end AfterCode

/-- Settles O20: the fall of chip select, and then the code byte, an end before it, or a post before it. -/
theorem statusByteIsFixedAndReturned : Obligations.StatusByteIsFixedAndReturned := by
  intro s p x
  refine ⟨fun running high reset => ?_, fun running high live few => ⟨x.statusByte, ?_, statusByte_reads few⟩,
    fun b live low txn => ?_⟩
  · simp [exec, execChipSelectFalls, x, running, high, reset]
  · simp [exec, execChipSelectFalls, x, running, high, live]
  have notIgnored : (s.port p).txn ≠ .ignore := by rw [show (s.port p).txn = .code b from txn]; nofun
  refine ⟨fun code => ⟨x.afterCode code, ?_, ?_, ?_, ?_, ?_, afterCode_other x⟩, fun n => ?_, fun e => ?_⟩
  · unfold exec Machine.execTransactionCode
    exact midTransaction_run live low notIgnored (by rw [show (s.port p).txn = .code b from txn]; rfl)
  · rintro rfl; exact afterCode_status x
  · rintro rfl; exact afterCode_write x
  · rintro rfl; exact afterCode_readResponse x
  · rintro rfl; exact afterCode_readEvent x
  · unfold exec Machine.execIgnoredTransactionEnd
    refine endTransaction_run live low notIgnored ?_
    rw [show (s.port p).txn = .code b from txn]
    simp [State.rise, x]
  · by_cases attached : x.session = .attached
    · rw [post_attached attached, txn]; rfl
    · rw [post_of_no_session e attached, txn]

/-! ## The ends of the transactions that take nothing (R150, R152, R161) -/

/-- A transaction that the port ignores, or does not take at all, ends with nothing taken. -/
theorem endTransaction_ignored {s : State} {p : Slot} {n : Nat} {act : Txn → Option State} (low : (s.port p).csLow = true)
    (h : s.portLive p = false ∨ (s.port p).txn = .ignore) : s.endTransaction p n act = .next (s.riseIgnored p n) := by
  rcases h with h | h <;> simp [State.endTransaction, low, h]

/-- What a stream of bytes returns in `n` bytes: the stream, then H'00 (Table 9-2). -/
theorem firstOf_eq (n : Nat) (bs : List Byte) : firstOf n bs = (bs ++ List.replicate n 0#8).take n := by
  simp [firstOf, zeros, List.take_append, List.take_replicate]

/-- Settles O21, by the transaction in progress. -/
theorem statusAndIgnoredTransactionsEnd : Obligations.StatusAndIgnoredTransactionsEnd := by
  intro s p clocked low ended
  have run {act : Txn → Option State} {t : Txn} {bs : List Byte} (live : s.portLive p = true) (txn : (s.port p).txn = t)
      (taken : t ≠ .ignore) (h : act t = some (s.rise p bs)) : s.endTransaction p clocked act = .next (ended bs) :=
    endTransaction_run live low (txn ▸ taken) (txn ▸ h)
  refine ⟨fun live n txn => ⟨?_, fun some => ?_⟩, fun live txn => ?_, fun live b txn => ?_, fun live txn few => ?_, fun dead => ?_⟩
  · rintro rfl
    unfold exec Machine.execStatusTransaction
    exact run live txn nofun rfl
  · unfold exec Machine.execStatusTransaction
    refine run live txn nofun (congrArg (fun bs => Option.some (s.rise p bs)) ?_)
    obtain ⟨m, rfl⟩ := Nat.exists_eq_add_of_lt some
    simp [firstOf, zeros]
  · unfold exec Machine.execIgnoredTransactionEnd
    refine (endTransaction_ignored low (.inr txn)).trans ?_
    rw [State.riseIgnored, live]
    rfl
  · unfold exec Machine.execIgnoredTransactionEnd
    exact run live txn nofun rfl
  · unfold exec Machine.execIgnoredTransactionEnd
    refine run live txn nofun (congrArg (fun n => Option.some (s.rise p (zeros n))) ?_)
    exact Nat.min_eq_left few
  · unfold exec Machine.execIgnoredTransactionEnd
    refine (endTransaction_ignored low (.inl dead)).trans ?_
    rw [State.riseIgnored, dead]
    rfl

/-! ## The reads (R157, R163) -/

section Reads
variable {s : State} {p : Slot} {n : Nat} (live : s.portLive p = true) (low : (s.port p).csLow = true)
include live low

theorem exec_readResponse_nothing (txn : (s.port p).txn = .readResponse none) :
    exec (.readResponse p n) s = .next (s.rise p (zeros n)).settle :=
  congrArg settled (endTransaction_run live low (by rw [txn]; nofun) (by rw [txn]))

/-- The end of a read of response `r` (R157). -/
theorem exec_readResponse {r : Response} (txn : (s.port p).txn = .readResponse (some r)) : exec (.readResponse p n) s =
    .next ((if r.bytes.length ≤ n then s.removeResponse p r else s).rise p (firstOf n r.bytes)).settle :=
  congrArg settled (endTransaction_run live low (by rw [txn]; nofun) (by rw [txn]))

theorem exec_readEvent_nothing {m : Nat} (txn : (s.port p).txn = .readEvent none m) :
    exec (.readEvent p n) s = .next (s.rise p (zeros n)) := by
  unfold exec Machine.execReadEvent
  exact endTransaction_run live low (by rw [txn]; nofun) (by rw [txn])

/-- The end of a read of event `e`, into which `m` posts were counted (R163). -/
theorem exec_readEvent {e : Event} {m : Nat} (txn : (s.port p).txn = .readEvent (some e) m) : exec (.readEvent p n) s =
    .next ((if 6 ≤ n then s.updPort p fun x => { x with events := eventsAfterRead e m x.events } else s).rise p (firstOf n e.bytes)) := by
  unfold exec Machine.execReadEvent
  exact endTransaction_run live low (by rw [txn]; nofun) (by rw [txn])

end Reads

/-- Settles O23, from the end of a read and what the removal of a response leaves. -/
theorem responseReadToItsEndIsRemoved : Obligations.ResponseReadToItsEndIsRemoved := by
  intro s p n live low
  refine ⟨exec_readResponse_nothing live low, ?_⟩
  intro r rest queue txn payload bytes returned ended
  have read := exec_readResponse (n := n) live low txn
  have stream : r.bytes = bytes := by
    cases hm : r.msg <;> simp [bytes, payload, Response.bytes, be16, hm]
  rw [stream, firstOf_eq] at read
  have removed : ∃ w, w.port p = s.port p ∧ (s.removeResponse p r).rise p returned = ended w rest
      ∧ w = match r.msg with | some m => (s.freeRxMsgs [m]).serve | none => s := by
    obtain ⟨w, -, ports, rises, freed⟩ := removeResponse_rise s p r returned
    have same : w.port p = s.port p := by simp only [State.port, ports]
    refine ⟨w, same, rises.trans ?_, freed⟩
    simp only [ended, same, queue, List.tail_cons]
  obtain ⟨w, -, rises, freed⟩ := removed
  refine ⟨fun short => ?_, fun whole none => ?_, fun whole m some => ?_⟩
  · rw [read, if_neg (Nat.not_le_of_lt short)]
    simp only [ended, ← queue]
    rfl
  · rw [read, if_pos whole, rises, freed, none]
  · intro freedPool
    rw [read, if_pos whole, rises, freed, some]
    have pool : s.freeRxMsgs [m] = freedPool := by rw [freeRxMsgs_eq]; rfl
    rw [← pool]

/-- Settles O24, by the queue that a complete read leaves. -/
theorem eventReadToItsEndIsRemoved : Obligations.EventReadToItsEndIsRemoved := by
  intro s p n live low x ended
  refine ⟨fun m txn => ?_, ?_⟩
  · rw [exec_readEvent_nothing live low txn]
    simp [ended, State.rise, zeros, x]
  intro e m txn bytes
  have read := exec_readEvent (n := n) live low txn
  rw [firstOf_eq] at read
  have complete (whole : 6 ≤ n) {es : List Event} (h : eventsAfterRead e m x.events = es) :
      exec (.readEvent p n) s = .next (ended es bytes) := by
    rw [read, if_pos whole, ← h]
    simp only [State.updPort, State.rise, port_setPort, setPort_setPort]
    rfl
  refine ⟨fun short => ?_, fun whole plain => complete whole (if_neg ?_), fun whole overflow counted alone => complete whole ?_⟩
  · rw [read, if_neg (Nat.not_le_of_lt short)]
    rfl
  · rcases plain with ordinary | none
    · exact fun h => ordinary h.1
    · exact fun h => h.2 none
  · obtain ⟨f, only⟩ := List.length_eq_one_iff.mp alone
    rw [only]
    exact if_pos ⟨overflow, counted⟩

/-! ## Host port reset (R160, R161) -/

/-- Settles O25, by the session that the reset meets. -/
theorem portResetClearsThePort : Obligations.PortResetClearsThePort := by
  intro s p running freed cleared
  have asserted : exec (.hostPortReset p) s = .next (s.resetPort p).settle := if_neg (by rw [running]; nofun)
  refine ⟨fun attached => ?_, fun unattached => ?_, fun low => ?_⟩
  · rw [asserted, resetPort_attached attached]; rfl
  · rw [asserted, resetPort_unattached unattached]; rfl
  · simp [exec, execHostPortResetRelease, low, running, State.updPort, HostPort.released, cleared, restingTxn]

/-! ## Requests (R155, R158) -/

/-- A request that a common check refuses, by the row of its command code (R155). -/
theorem exec_commonCheck_refuses {s : State} {p : Slot} {h : ReqHeader} {st : Staging} {body : List Byte} {r : Result}
    (w : s.Writing p h st) (hc : commonCheck h body.length (decide ((s.port p).session = .attached)) = some r) :
    exec (requestOf h.code p body) s = .next (((s.unstaged p st).reply p h { result := r } body.length).concluded h.code) := by
  have refused {row : Byte → Bool} {act : Action} (hr : row h.code = true) :
      s.request p row body act = .next ((s.unstaged p st).reply p h { result := r } body.length) := by
    rw [request_run w hr, hc]
    rfl
  cases known : knownCode h.code with
  | false =>
    have quiet : mayOweFrames h.code = false := by
      simp [knownCode] at known
      simp [mayOweFrames, known]
    rw [requestOf_unknown p body known, State.concluded, quiet]
    exact refused (row := fun c => !knownCode c) (by rw [known]; rfl)
  | true =>
    obtain e | e | e | e | e | e | e | e | e | e | e | e | e | e := knownCode_cases known <;> rw [e]
    · exact refused (row := (· == 0x01#8)) (beq_iff_eq.2 e)
    · exact congrArg settled (refused (row := (· == 0x02#8)) (beq_iff_eq.2 e))
    · exact congrArg settled (refused (row := (· == 0x10#8)) (beq_iff_eq.2 e))
    · exact congrArg settled (refused (row := (· == 0x11#8)) (beq_iff_eq.2 e))
    · exact refused (row := (· == 0x12#8)) (beq_iff_eq.2 e)
    · exact refused (row := (· == 0x13#8)) (beq_iff_eq.2 e)
    · exact refused (row := (· == 0x20#8)) (beq_iff_eq.2 e)
    · exact congrArg settled (refused (row := (· == 0x21#8)) (beq_iff_eq.2 e))
    · exact congrArg settled (refused (row := (· == 0x22#8)) (beq_iff_eq.2 e))
    · exact congrArg settled (refused (row := (· == 0x23#8)) (beq_iff_eq.2 e))
    · exact refused (row := (· == 0x24#8)) (beq_iff_eq.2 e)
    · exact congrArg settled (refused (row := (· == 0x30#8)) (beq_iff_eq.2 e))
    · exact congrArg settled (refused (row := (· == 0x31#8)) (beq_iff_eq.2 e))
    · exact refused (row := (· == 0x40#8)) (beq_iff_eq.2 e)

/-- Settles O27: the three common checks in their order. -/
theorem commonChecksRefuse : Obligations.CommonChecksRefuse := by
  intro s p h st body w refused
  refine ⟨fun differs => ?_, fun f accepted bad => ?_, fun whole unknown => ?_, fun f whole accepted good detached other => ?_⟩
  · exact exec_commonCheck_refuses w (if_pos (.inl differs))
  · obtain ⟨known, accepts⟩ := acceptsLength_eq accepted h.len.toNat
    exact exec_commonCheck_refuses w (if_pos (.inr ⟨known, by rw [accepts, bad]; rfl⟩))
  · have known := knownCode_of_lengths unknown
    exact exec_commonCheck_refuses w (by simp [commonCheck, whole, known])
  · obtain ⟨known, accepts⟩ := acceptsLength_eq accepted h.len.toNat
    exact exec_commonCheck_refuses w (by simp [commonCheck, whole, known, accepts, good, detached, other])

/-- Settles O29: the request passes the common checks, and ATTACH meets a port that is not attached. -/
theorem attachOpensASession : Obligations.AttachOpensASession := by
  intro s p h st w code empty detached
  have passes : commonCheck h ([] : List Byte).length (decide ((s.port p).session = .attached)) = none :=
    commonCheck_eq_none (f := fun n => n == 0) (by rw [empty]; rfl) (by rw [code]; rfl) (by rw [empty]; rfl) fun other => absurd code other
  have opens : State.doAttach p h st s = (s.setPort p { s.port p with session := .attached }, okReply (attachBody p)) :=
    if_neg (by rw [detached]; nofun)
  refine (request_run (row := (· == 0x01#8)) w (beq_iff_eq.2 code)).trans ?_
  rw [passes, opens]
  rfl

end Sys2Proof.Machine
end

section
/-! SUPPORT. The end of a session on the channel table (R135): what one record gives up before the credit-owed list is served, and the
records of the slot given up one after another. -/

namespace Sys2Proof.Machine

/-! ## What one record gives up -/

/-- A record that is aborted when it is given up (R127, R135). -/
abbrev Chan.Aborts (c : Chan) : Prop := c.state = .opening ∧ c.owed.opn = false ∨ c.state = .opened ∨ c.state = .closing

/-- The messages of the send queue that a record gives up (R122). -/
def Chan.givenMsgs (c : Chan) : List TxMsg :=
  if c.Aborts then c.sendQ else []

/-- The blocks of the receive queue that a record gives up (R122, R127). -/
def Chan.givenHeld (c : Chan) : Nat :=
  if c.Aborts ∨ c.state = .ended then heldBlocks c.recvQ else 0

/-- What giving up record `i` does besides the ports, before the credit-owed list is served (R122, R127, R135). -/
structure State.Relinquishes (s w : State) (i : ChanId) : Prop where
  self : w.chan i = (s.chan i).givenUp
  others : ∀ j, j ≠ i → w.chan j = s.chan j
  quiet : ¬ (s.chan i).Aborts → ∀ l, w.link l = { s.link l with ready := (w.link l).ready }
  cleared : (s.chan i).Aborts → ∀ l, w.link l = { s.link l with
    rtx := if l = (s.chan i).link then (s.link l).rtx.map (Entry.clearNotify i) else (s.link l).rtx
    ready := (w.link l).ready }
  lines : w.lines = s.lines
  free : w.pool.free = s.pool.free + ((s.chan i).givenMsgs.map TxMsg.blocks).sum + (s.chan i).givenHeld
  usage : ∀ n : Slot, w.pool.usage[n] = s.pool.usage[n] - chargedBlocks n (s.chan i).givenMsgs
  rx : w.pool.rx = s.pool.rx - (s.chan i).givenHeld
  owed : w.pool.creditOwed = s.pool.creditOwed ∨ w.pool.creditOwed = s.pool.creditOwed.filter (· != i)
  off : (s.chan i).Aborts → i ∉ w.pool.creditOwed
  model : w.resetLow = s.resetLow ∧ w.freeCount = s.freeCount ∧ w.pending = s.pending

section Relinquishes
variable {s : State} {i : ChanId}

theorem givenUp_of_aborts (h : (s.chan i).Aborts) : (s.chan i).givenUp = (s.chan i).aborted := by
  rcases h with ⟨hs, sent⟩ | hs | hs
  · simp [Chan.givenUp, hs, sent]
  · simp [Chan.givenUp, hs]
  · simp [Chan.givenUp, hs]

/-- An aborted record gives up both queues, its credit and the notify flags of its messages (R122, R114). -/
theorem aborted_relinquishes (h : (s.chan i).Aborts) : s.Relinquishes (s.shed i (s.chan i).aborted (s.chan i).recvQ) i := by
  have sheds := shed_sheds s i (s.chan i).aborted (s.chan i).recvQ
  have msgs : (s.chan i).givenMsgs = (s.chan i).sendQ := if_pos h
  have held : (s.chan i).givenHeld = heldBlocks (s.chan i).recvQ := if_pos (.inl h)
  constructor
  case self => rw [givenUp_of_aborts h]; exact shed_chan_self ..
  case others => exact sheds.others
  case quiet => exact fun still => absurd h still
  case cleared => intro _ l; rw [sheds.links l]
  case lines => exact sheds.lines
  case free => rw [msgs, held]; exact sheds.free
  case usage => rw [msgs]; exact sheds.usage
  case rx => rw [held]; exact sheds.rx
  case owed => exact .inr sheds.owed
  case off => rw [sheds.owed]; simp
  case model => exact sheds.model

/-- A record that becomes FREE gives up its receive queue at most; the record is `i`, and `q` is the pool then (R127). -/
theorem freed_relinquishes (freed : (s.chan i).givenUp = {}) (still : ¬ (s.chan i).Aborts) {q : Pool}
    (free : q.free = s.pool.free + (s.chan i).givenHeld) (rx : q.rx = s.pool.rx - (s.chan i).givenHeld) (usage : q.usage = s.pool.usage)
    (owed : q.creditOwed = s.pool.creditOwed ∨ q.creditOwed = s.pool.creditOwed.filter (· != i)) :
    s.Relinquishes ((s.setPool q).freeChan i) i := by
  have msgs : (s.chan i).givenMsgs = [] := if_neg still
  rw [freeChan_eq]
  constructor
  case self => rw [freed]; simp
  case others => intro j hj; simp [hj]
  case quiet =>
    intro _ l
    by_cases own : l = (s.chan i).link
    · subst own; simp
    · simp [own]
  case cleared => exact fun h => absurd h still
  case lines => rfl
  case free => rw [msgs]; exact free
  case usage => intro n; rw [msgs]; exact congrArg (·[n]) usage
  case rx => exact rx
  case owed => exact owed
  case off => exact fun h => absurd h still
  case model => exact ⟨rfl, rfl, rfl⟩

/-- Giving up a record that is not FREE (R127, R135): what the record gives up, and then the serving of the credit-owed list, unless the
pool is as it was. -/
theorem giveUp_relinquishes (live : (s.chan i).state ≠ .free) :
    ∃ w, (s.giveUp i = w ∧ w.pool = s.pool ∨ s.giveUp i = w.serve) ∧ s.Relinquishes w i := by
  by_cases aborts : (s.chan i).Aborts
  · exact ⟨_, .inr ((giveUp_aborts aborts).trans (abortChan_eq s i)), aborted_relinquishes aborts⟩
  have freed (hs : (s.chan i).state = .listen ∨ (s.chan i).state = .ended ∨ (s.chan i).state = .opening ∧ (s.chan i).owed.opn = true) :
      (s.chan i).givenUp = {} := by rcases hs with e | e | ⟨e, o⟩ <;> simp [Chan.givenUp, *]
  cases hs : (s.chan i).state with
  | free => exact absurd hs live
  | listen =>
    have held : (s.chan i).givenHeld = 0 := by simp [Chan.givenHeld, hs]
    refine ⟨s.freeChan i, .inl ⟨by simp [State.giveUp, hs], by rw [freeChan_eq]; rfl⟩, ?_⟩
    exact freed_relinquishes (q := s.pool) (freed (.inl hs)) aborts (by rw [held]; rfl) (by rw [held]; rfl) rfl (.inl rfl)
  | ended =>
    have held : (s.chan i).givenHeld = heldBlocks (s.chan i).recvQ := if_pos (.inr hs)
    refine ⟨(s.freeRxMsgs (s.chan i).recvQ).freeChan i, .inr (by simp [State.giveUp, hs]), ?_⟩
    rw [freeRxMsgs_eq]
    exact freed_relinquishes (freed (.inr (.inl hs))) aborts (by rw [held]) (by rw [held]) rfl (.inl rfl)
  | opening =>
    have owes : (s.chan i).owed.opn = true := by
      by_contra sent
      exact aborts (.inl ⟨hs, Bool.eq_false_of_not_eq_true sent⟩)
    have held : (s.chan i).givenHeld = 0 := by simp [Chan.givenHeld, hs, owes]
    have released : (s.releaseCredit i).freeChan i = (s.setPool (s.pool.unreserve i (s.chan i).outstanding)).freeChan i := by
      simp [freeChan_eq, State.releaseCredit, setPool_setChan]
      rfl
    refine ⟨_, .inr (by simp [State.giveUp, hs, owes] : s.giveUp i = ((s.releaseCredit i).freeChan i).serve), ?_⟩
    rw [released]
    exact freed_relinquishes (freed (.inr (.inr ⟨hs, owes⟩))) aborts (by rw [held]; rfl) (by rw [held]; rfl) rfl (.inr rfl)
  | opened => exact absurd (.inr (.inl hs)) aborts
  | closing => exact absurd (.inr (.inr hs)) aborts
  | aborting =>
    have msgs : (s.chan i).givenMsgs = [] := if_neg aborts
    have held : (s.chan i).givenHeld = 0 := by simp [Chan.givenHeld, hs]
    have same : (s.chan i).givenUp = s.chan i := by simp [Chan.givenUp, hs]
    refine ⟨s, .inl ⟨by simp [State.giveUp, hs], rfl⟩, ?_⟩
    exact { self := same.symm, others := fun _ _ => rfl, quiet := fun _ _ => rfl, cleared := fun h => absurd h aborts, lines := rfl
            free := by rw [msgs, held]; rfl
            usage := fun n => by rw [msgs]; rfl
            rx := by rw [held]; rfl
            owed := .inl rfl, off := fun h => absurd h aborts, model := ⟨rfl, rfl, rfl⟩ }

end Relinquishes

end Sys2Proof.Machine
end

section
/-! SUPPORT. The records of a slot given up one after another at the end of its session (R135), with the grants of the credit-owed list,
which is served in turn for the records of the other slots (R100, R101). -/

namespace Sys2Proof.Machine

/-! ## The notify flags of several records -/

/-- An entry with its notify flag cleared, when its message is of a channel of `q` (R114). -/
def Entry.clearNotifyIn (q : List ChanId) (e : Entry) : Entry :=
  match e.body with
  | .data m => if m.channel ∈ q then { e with body := .data { m with notify := false } } else e
  | .ctl _ => e

theorem clearNotifyIn_nil (e : Entry) : e.clearNotifyIn [] = e := by
  obtain ⟨_, _, _, m | c⟩ := e <;> simp [Entry.clearNotifyIn]

theorem clearNotify_clearNotifyIn (q : List ChanId) (i : ChanId) (e : Entry) :
    (e.clearNotifyIn q).clearNotify i = e.clearNotifyIn (q ++ [i]) := by
  obtain ⟨_, _, _, m | c⟩ := e
  · by_cases new : m.channel = i
    · subst new
      by_cases old : m.channel ∈ q <;> simp [Entry.clearNotifyIn, Entry.clearNotify, old]
    · by_cases old : m.channel ∈ q <;> simp [Entry.clearNotifyIn, Entry.clearNotify, old, new]
  · rfl

/-! ## A record after grants gives up what it gave up before them -/

section Granted
variable {c old : Chan} (h : c.grantedFrom old)
include h

theorem grantedFrom_owner : c.owner = old.owner := by obtain ⟨g, -, rfl⟩ := h; split <;> rfl
theorem grantedFrom_givenUp : c.givenUp = old.givenUp := by
  obtain ⟨g, opened, rfl⟩ := h
  split
  · rfl
  · next some => simp [Chan.givenUp, Chan.aborted, opened some]
theorem grantedFrom_aborts : c.Aborts ↔ old.Aborts := by obtain ⟨g, -, rfl⟩ := h; split <;> rfl
theorem grantedFrom_givenMsgs : c.givenMsgs = old.givenMsgs := by obtain ⟨g, -, rfl⟩ := h; split <;> rfl
theorem grantedFrom_givenHeld : c.givenHeld = old.givenHeld := by obtain ⟨g, -, rfl⟩ := h; split <;> rfl

end Granted

/-- A record given up is not OPEN. -/
theorem givenUp_not_opened (c : Chan) : c.givenUp.state ≠ .opened := by
  cases hs : c.state <;> simp [Chan.givenUp, Chan.aborted, hs]
  split <;> nofun

/-- The records whose state becomes ABORTING are those that are aborted (R135). -/
theorem aborts_iff (c : Chan) : c.Aborts ↔ c.state ≠ .aborting ∧ c.givenUp.state = .aborting := by
  cases hs : c.state <;> simp [Chan.Aborts, Chan.givenUp, hs, Chan.aborted]
  cases c.owed.opn <;> simp

/-! ## The records of a slot, one after the other (R135) -/

/-- Record `i` is aborted by the end of the session of slot `p`, and bound to link `l`. -/
def State.abortsOn (s : State) (p : Slot) (l : LinkId) (i : ChanId) : Bool :=
  decide (s.Owns p i ∧ (s.chan i).link = l ∧ (s.chan i).Aborts)

/-- The messages that record `i` gives up when the session of slot `p` ends (R135). -/
def State.givenMsgsOf (s : State) (p : Slot) (i : ChanId) : List TxMsg := if s.Owns p i then (s.chan i).givenMsgs else []

/-- The received blocks that record `i` gives up when the session of slot `p` ends (R135). -/
def State.givenHeldOf (s : State) (p : Slot) (i : ChanId) : Nat := if s.Owns p i then (s.chan i).givenHeld else 0

/-- In `u` the records `done` of slot `p` have been given up, and the credit-owed list has been served; nothing else has changed since `s`
but the ports. -/
structure State.GivenUpTo (s : State) (p : Slot) (done : List ChanId) (u : State) : Prop where
  mine : ∀ i ∈ done, s.Owns p i → u.chan i = (s.chan i).givenUp
  others : ∀ i, ¬ (i ∈ done ∧ s.Owns p i) → (u.chan i).grantedFrom (s.chan i) ∧ (i ∉ s.pool.creditOwed → u.chan i = s.chan i)
  links : ∀ l, u.link l = { s.link l with
    rtx := (s.link l).rtx.map (Entry.clearNotifyIn (done.filter (s.abortsOn p l))), ready := (u.link l).ready }
  lines : u.lines = s.lines
  free : u.pool.free = s.pool.free + ((done.flatMap (s.givenMsgsOf p)).map TxMsg.blocks).sum + (done.map (s.givenHeldOf p)).sum
  usage : ∀ n : Slot, u.pool.usage[n] = s.pool.usage[n] - chargedBlocks n (done.flatMap (s.givenMsgsOf p))
  rx : u.pool.rx = s.pool.rx - (done.map (s.givenHeldOf p)).sum
  list : u.pool.creditOwed.Sublist s.pool.creditOwed
  off : ∀ i ∈ done, s.Owns p i → (s.chan i).Aborts → i ∉ u.pool.creditOwed
  model : u.resetLow = s.resetLow ∧ u.freeCount = s.freeCount ∧ u.pending = s.pending

namespace State.GivenUpTo
variable {s u w : State} {p : Slot} {done : List ChanId} {i : ChanId}

theorem start (s : State) (p : Slot) : s.GivenUpTo p [] s where
  mine := nofun
  others _ _ := ⟨Chan.grantedFrom_refl _, fun _ => rfl⟩
  links l := by
    have none : Entry.clearNotifyIn [] = id := funext clearNotifyIn_nil
    rw [List.filter_nil, none, List.map_id]
  lines := rfl
  free := rfl
  usage _ := rfl
  rx := rfl
  list := .refl _
  off := nofun
  model := ⟨rfl, rfl, rfl⟩

/-- A record of another slot is passed over. -/
theorem skip (h : s.GivenUpTo p done u) (hi : ¬ s.Owns p i) : s.GivenUpTo p (done ++ [i]) u where
  mine k hk own := by
    rcases List.mem_append.mp hk with old | new
    · exact h.mine k old own
    · exact absurd (List.mem_singleton.mp new ▸ own) hi
  others k hk := h.others k fun ⟨old, own⟩ => hk ⟨List.mem_append_left _ old, own⟩
  links l := by
    have not : s.abortsOn p l i = false := decide_eq_false fun e => hi e.1
    rw [List.filter_append, List.filter_singleton, not]
    simpa using h.links l
  lines := h.lines
  free := by simpa [State.givenMsgsOf, State.givenHeldOf, hi] using h.free
  usage n := by simpa [State.givenMsgsOf, hi] using h.usage n
  rx := by simpa [State.givenHeldOf, hi] using h.rx
  list := h.list
  off k hk own := by
    rcases List.mem_append.mp hk with old | new
    · exact h.off k old own
    · exact absurd (List.mem_singleton.mp new ▸ own) hi
  model := h.model

/-- A record of the slot is given up. -/
theorem give (h : s.GivenUpTo p done u) (own : s.Owns p i) (new : i ∉ done) (t : u.Relinquishes w i) :
    s.GivenUpTo p (done ++ [i]) w := by
  obtain ⟨from_, -⟩ := h.others i fun e => new e.1
  have msgs : (u.chan i).givenMsgs = s.givenMsgsOf p i := (grantedFrom_givenMsgs from_).trans (if_pos own).symm
  have held : (u.chan i).givenHeld = s.givenHeldOf p i := (grantedFrom_givenHeld from_).trans (if_pos own).symm
  have shorter : w.pool.creditOwed.Sublist u.pool.creditOwed := by
    rcases t.owed with e | e <;> rw [e]
    exact List.filter_sublist
  obtain ⟨m1, m2, m3⟩ := t.model
  obtain ⟨n1, n2, n3⟩ := h.model
  constructor
  case mine =>
    intro k hk owner
    by_cases e : k = i
    · subst e; rw [t.self, grantedFrom_givenUp from_]
    · rw [t.others k e]
      exact h.mine k (by simpa [e] using hk) owner
  case others =>
    intro k hk
    have ne : k ≠ i := fun e => hk ⟨by simp [e], e ▸ own⟩
    rw [t.others k ne]
    exact h.others k fun ⟨old, owner⟩ => hk ⟨List.mem_append_left _ old, owner⟩
  case links =>
    intro l
    by_cases aborts : (u.chan i).Aborts
    · have mark : s.abortsOn p l i = decide (l = (u.chan i).link) := by
        simp [State.abortsOn, own, (grantedFrom_aborts from_).mp aborts, from_.link, eq_comm]
      rw [t.cleared aborts l, h.links l, List.filter_append, List.filter_singleton, mark]
      by_cases on : l = (u.chan i).link
      · simp [on, clearNotify_clearNotifyIn]
      · simp [on]
    · have mark : s.abortsOn p l i = false := decide_eq_false fun e => aborts ((grantedFrom_aborts from_).mpr e.2.2)
      rw [t.quiet aborts l, h.links l, List.filter_append, List.filter_singleton, mark]
      simp
  case lines => exact t.lines.trans h.lines
  case free =>
    rw [t.free, h.free, msgs, held]
    simp only [List.flatMap_append, List.flatMap_singleton, List.map_append, List.sum_append, List.map_singleton, List.sum_singleton]
    omega
  case usage =>
    intro n
    rw [t.usage, h.usage, msgs, List.flatMap_append, List.flatMap_singleton, chargedBlocks_append, Nat.sub_sub]
  case rx =>
    rw [t.rx, h.rx, held, List.map_append, List.sum_append, List.map_singleton, List.sum_singleton, Nat.sub_sub]
  case list => exact shorter.trans h.list
  case off =>
    intro k hk owner aborts
    by_cases e : k = i
    · subst e; exact t.off ((grantedFrom_aborts from_).mpr aborts)
    · exact fun listed => h.off k (by simpa [e] using hk) owner aborts (shorter.subset listed)
  case model => exact ⟨m1.trans n1, m2.trans n2, m3.trans n3⟩

/-- The credit-owed list is served (R101): a record given up is not OPEN. -/
theorem serve (h : s.GivenUpTo p done u) : s.GivenUpTo p done u.serve := by
  have served := serve_served u
  constructor
  case mine =>
    intro k hk own
    exact serve_chan_of_not_opened (h.mine k hk own) (givenUp_not_opened _)
  case others =>
    intro k hk
    obtain ⟨from_, kept⟩ := h.others k hk
    refine ⟨from_.trans (served.chans k), fun hm => ?_⟩
    rw [served.others k (.inl fun hm' => hm (h.list.subset hm'))]
    exact kept hm
  case links =>
    intro l
    obtain ⟨_, e, -⟩ := served.links l
    rw [e, h.links l]
  case lines => exact (serve_lines u).trans h.lines
  case free => exact served.free.trans h.free
  case usage => intro n; rw [served.usage]; exact h.usage n
  case rx => exact served.rx.trans h.rx
  case list => exact served.rest.sublist.trans h.list
  case off => exact fun k hk own aborts hm => h.off k hk own aborts (served.rest.subset hm)
  case model => simpa using h.model

theorem owns_iff (h : s.GivenUpTo p done u) (new : i ∉ done) : u.Owns p i ↔ s.Owns p i := by
  obtain ⟨from_, -⟩ := h.others i fun e => new e.1
  rw [State.Owns, State.Owns, from_.state, grantedFrom_owner from_]

/-- The records on the list are OPEN, as they were (R100). -/
theorem opened (h : s.GivenUpTo p done u) (waiting : ∀ i ∈ s.pool.creditOwed, (s.chan i).state = .opened)
    (hi : i ∈ u.pool.creditOwed) : (u.chan i).state = .opened := by
  have before := waiting i (h.list.subset hi)
  obtain ⟨from_, -⟩ := h.others i fun ⟨old, own⟩ => h.off i old own (.inr (.inl before)) hi
  exact from_.state.trans before

end State.GivenUpTo

/-! ## The records of the other slots are served in turn (R101) -/

/-- Record `i` is not of slot `p`. -/
def State.beside (s : State) (p : Slot) (i : ChanId) : Bool := decide ((s.chan i).state = .free ∨ (s.chan i).owner ≠ p)

theorem beside_of_owns {s : State} {p : Slot} {i : ChanId} (own : s.Owns p i) : s.beside p i = false :=
  decide_eq_false fun e => e.elim own.1 fun ne => ne own.2

/-- What is left in `u` of the records on the credit-owed list that were not of slot `p` in `s`. -/
def State.leftBeside (s : State) (p : Slot) (u : State) : List ChanId := u.pool.creditOwed.filter (s.beside p)

/-- From `s` to `u` the records of the other slots on the credit-owed list have been served from its head, as in State.ServedInTurn. -/
structure State.InTurn (s : State) (p : Slot) (u : State) : Prop where
  met : ∃ met, s.leftBeside p s = met ++ s.leftBeside p u ∧ ∀ i ∈ met, u.chan i = (s.chan i).granted (s.chan i).openWant
  part : ∀ i ∈ s.leftBeside p u, ∃ g, (g = 0 ∨ g < (s.chan i).openWant) ∧ u.chan i = (s.chan i).granted g
  behind : ∀ i ∈ (s.leftBeside p u).tail, u.chan i = s.chan i
  records : u.RecordsOk

/-- The records obey their law when one of them has been given up, before the list is served. -/
theorem relinquishes_records {u w : State} {i : ChanId} (ok : u.RecordsOk) (t : u.Relinquishes w i)
    (e : u.giveUp i = w ∨ u.giveUp i = w.serve) : w.RecordsOk := by
  have given : (u.giveUp i).chan i = w.chan i := by
    rcases e with e | e <;> rw [e]
    exact serve_chan_of_not_opened rfl (by rw [t.self]; exact givenUp_not_opened _)
  intro k
  by_cases self : k = i
  · subst self
    rw [← given]
    exact tableRecords.giveUp ok k
  · rw [t.others k self]
    exact ok k

theorem mem_head_or_tail {α : Type} {a : α} {q : List α} (h : a ∈ q) : q.head? = some a ∨ a ∈ q.tail := by
  cases q with
  | nil => nomatch h
  | cons b rest =>
    rcases List.mem_cons.mp h with rfl | tail
    · exact .inl rfl
    · exact .inr tail

namespace State.InTurn
variable {s u w : State} {p : Slot} {done : List ChanId} {i : ChanId}

theorem start (ok : s.RecordsOk) : s.InTurn p s where
  met := ⟨[], rfl, by simp⟩
  part i _ := ⟨0, .inl rfl, (granted_zero _).symm⟩
  behind _ _ := rfl
  records := ok

/-- A record of the slot is given up: the others are as they were, and so is what is left of them on the list. -/
theorem give (h : s.InTurn p u) (own : s.Owns p i) (t : u.Relinquishes w i) (ok : w.RecordsOk) : s.InTurn p w := by
  have off (k : ChanId) (hk : s.beside p k = true) : k ≠ i := fun e => by
    rw [e, beside_of_owns own] at hk
    nomatch hk
  have left : s.leftBeside p w = s.leftBeside p u := by
    rcases t.owed with e | e <;> rw [State.leftBeside, e]
    · rfl
    · rw [List.filter_filter]
      refine List.filter_congr fun k _ => ?_
      cases hk : s.beside p k
      · rfl
      · simpa using off k hk
  have kept (k : ChanId) (hk : k ∈ s.leftBeside p s) : w.chan k = u.chan k := t.others k (off k (List.mem_filter.mp hk).2)
  obtain ⟨met, q, full⟩ := h.met
  have remains : s.leftBeside p u ⊆ s.leftBeside p s := by rw [q]; exact List.subset_append_right ..
  constructor
  case met =>
    rw [left]
    exact ⟨met, q, fun k hk => (kept k (by rw [q]; exact List.mem_append_left _ hk)).trans (full k hk)⟩
  case part => rw [left]; exact fun k hk => by rw [kept k (remains hk)]; exact h.part k hk
  case behind => rw [left]; exact fun k hk => (kept k (remains (List.mem_of_mem_tail hk))).trans (h.behind k hk)
  case records => exact ok

/-- The whole list is served from its head: so are the records of the other slots (R101). -/
theorem serve (h : s.InTurn p u) (upTo : s.GivenUpTo p done u) (records : s.RecordsOk) (pool : s.PoolOk) : s.InTurn p u.serve := by
  have waits : u.CanWait u.pool.creditOwed :=
    { once := upTo.list.nodup pool.once, opened := fun i hi => upTo.opened pool.waiting hi, ok := fun i _ => h.records i }
  have turn : u.Turn 0 u.pool.creditOwed u.serve.pool.creditOwed u.serve :=
    State.Turn.serveList waits (.start (fun _ _ => rfl) fun _ _ => rfl)
  obtain ⟨gone, list, whole⟩ := turn.met
  obtain ⟨met, before, full⟩ := h.met
  have left : s.leftBeside p u = gone.filter (s.beside p) ++ s.leftBeside p u.serve := by
    rw [State.leftBeside, list, List.filter_append]
    rfl
  have want {i : ChanId} (hi : i ∈ s.leftBeside p u) {g : Nat} (hg : g = 0 ∨ g < (s.chan i).openWant) :
      ((s.chan i).granted g).openWant = (s.chan i).openWant - g :=
    granted_openWant (records i) (pool.waiting i (upTo.list.subset (List.mem_of_mem_filter hi))) (by omega)
  have shorter : (s.leftBeside p u.serve).Sublist (s.leftBeside p u) := by rw [left]; exact List.sublist_append_right ..
  constructor
  case met =>
    refine ⟨met ++ gone.filter (s.beside p), by rw [before, left, List.append_assoc], fun i hi => ?_⟩
    rcases List.mem_append.mp hi with old | new
    · have mem : i ∈ s.leftBeside p s := by rw [before]; exact List.mem_append_left _ old
      have once : (s.leftBeside p s).Nodup := pool.once.filter _
      rw [before] at once
      have off : i ∉ u.pool.creditOwed := fun listed =>
        (List.nodup_append.mp once).2.2 i old i (List.mem_filter.mpr ⟨listed, (List.mem_filter.mp mem).2⟩) rfl
      rw [(serve_served u).others i (.inl off)]
      exact full i old
    · have listed : i ∈ s.leftBeside p u := by rw [left]; exact List.mem_append_left _ new
      obtain ⟨g, part, had⟩ := h.part i listed
      rw [whole i (List.mem_of_mem_filter new), had, want listed part, granted_granted]
      exact congrArg _ (by omega)
  case part =>
    intro i hi
    have listed : i ∈ s.leftBeside p u := shorter.subset hi
    obtain ⟨g, part, had⟩ := h.part i listed
    rcases mem_head_or_tail (List.mem_of_mem_filter hi) with head | tail
    · obtain ⟨more, rest, got⟩ := turn.head i head
      rw [had, want listed part] at rest
      rw [had, granted_granted] at got
      exact ⟨g + more, by omega, got⟩
    · rw [turn.behind i tail]
      exact ⟨g, part, had⟩
  case behind =>
    intro i hi
    rw [turn.behind i (List.filter_sublist.tail.subset hi)]
    exact h.behind i (shorter.tail.subset hi)
  case records => exact tableRecords.serve h.records

end State.InTurn

/-! ## The end of a session (R159) -/

/-- One record of the slot given up: the others are served in turn, until nothing is left to grant (R135, R101). -/
theorem giveUp_steps {s u : State} {p : Slot} {done : List ChanId} {i : ChanId} (upTo : s.GivenUpTo p done u) (new : i ∉ done)
    (own : s.Owns p i) : s.GivenUpTo p (done ++ [i]) (u.giveUp i)
      ∧ (s.RecordsOk → s.PoolOk → s.InTurn p u ∧ (u.pool.creditOwed = [] ∨ u.pool.unreserved = 0) →
        s.InTurn p (u.giveUp i) ∧ ((u.giveUp i).pool.creditOwed = [] ∨ (u.giveUp i).pool.unreserved = 0)) := by
  obtain ⟨w, e, t⟩ := giveUp_relinquishes ((upTo.owns_iff new).mpr own).1
  have given := upTo.give own new t
  have turn (h : s.InTurn p u) : s.InTurn p w := h.give own t (relinquishes_records h.records t (e.imp_left And.left))
  rcases e with ⟨e, same⟩ | e <;> rw [e]
  · exact ⟨given, fun _ _ ⟨h, done⟩ => ⟨turn h, by rwa [same]⟩⟩
  · exact ⟨given.serve, fun records pool ⟨h, _⟩ => ⟨(turn h).serve given records pool, (serve_served w).done⟩⟩

/-- The records of a list are taken one after another: those of the slot are given up (R135). -/
theorem endRecords_steps {s : State} {p : Slot} (q : List ChanId) {u : State} {done : List ChanId} (once : (done ++ q).Nodup)
    (upTo : s.GivenUpTo p done u) :
    let v := q.foldl (fun s i => if (s.chan i).state ≠ .free ∧ (s.chan i).owner = p then s.giveUp i else s) u
    s.GivenUpTo p (done ++ q) v
      ∧ (s.RecordsOk → s.PoolOk → s.InTurn p u ∧ (u.pool.creditOwed = [] ∨ u.pool.unreserved = 0) →
        s.InTurn p v ∧ (v.pool.creditOwed = [] ∨ v.pool.unreserved = 0)) := by
  induction q generalizing u done with
  | nil => simpa using upTo
  | cons i rest ih =>
    have new : i ∉ done := fun hm => (List.nodup_append.mp once).2.2 i hm i (by simp) rfl
    have split : done ++ i :: rest = (done ++ [i]) ++ rest := by simp
    have once' : ((done ++ [i]) ++ rest).Nodup := split ▸ once
    intro v
    by_cases own : s.Owns p i
    · have taken : v = rest.foldl _ (u.giveUp i) := congrArg (rest.foldl _) (if_pos ((upTo.owns_iff new).mpr own))
      obtain ⟨given, served⟩ := giveUp_steps upTo new own
      obtain ⟨last, serves⟩ := ih once' given
      rw [split, taken]
      exact ⟨last, fun records pool h => serves records pool (served records pool h)⟩
    · have passed : v = rest.foldl _ u := congrArg (rest.foldl _) (if_neg fun owner => own ((upTo.owns_iff new).mp owner))
      rw [split, passed]
      exact ih once' (upTo.skip own)

/-- The records of the slot are given up in ascending order of id, with the others served in turn (R135, R101). -/
theorem endSessionRecords_steps (s : State) (p : Slot) : s.GivenUpTo p allChans (s.endSessionRecords p)
    ∧ (s.RecordsOk → s.PoolOk → s.InTurn p (s.endSessionRecords p)
      ∧ ((s.endSessionRecords p).pool.creditOwed = [] ∨ (s.endSessionRecords p).pool.unreserved = 0)) := by
  have once : ([] ++ allChans).Nodup := List.nodup_finRange 32
  obtain ⟨given, served⟩ := endRecords_steps allChans once (.start s p)
  unfold State.endSessionRecords
  exact ⟨given, fun records pool => served records pool ⟨.start records, (em _).imp_right pool.short⟩⟩

theorem endSessionRecords_givenUp (s : State) (p : Slot) : s.GivenUpTo p allChans (s.endSessionRecords p) :=
  (endSessionRecords_steps s p).1

/-- The records of the other slots on the credit-owed list have been served when those of the slot have been given up (R101). -/
theorem endSessionRecords_served {s : State} (p : Slot) (records : s.RecordsOk) (pool : s.PoolOk) :
    s.ServedInTurn (s.endSessionRecords p) (s.leftBeside p s) := by
  obtain ⟨given, served⟩ := endSessionRecords_steps s p
  obtain ⟨⟨met, part, behind, -⟩, done⟩ := served records pool
  have all : s.leftBeside p (s.endSessionRecords p) = (s.endSessionRecords p).pool.creditOwed :=
    List.filter_eq_self.mpr fun i hi => by
      have opened := pool.waiting i (given.list.subset hi)
      by_contra mine
      have own : s.Owns p i := ⟨by simp [opened], by simpa [State.beside, opened] using mine⟩
      exact given.off i (List.mem_finRange i) own (.inr (.inl opened)) hi
  rw [all] at met part behind
  exact ⟨met, fun i hi => part i (List.mem_of_head? hi), behind, done⟩

/-- A controller role given up changes only the ports and the links (R34). -/
theorem vacate_rest (s : State) (p : Slot) (l : LinkId) : ∃ ports links, s.vacate p l = { s with ports, links } := by
  have posted (u : State) (e : Event) : ∃ ports, u.postOthers p e = { u with ports } := by fin_cases p <;> exact ⟨_, rfl⟩
  unfold State.vacate
  dsimp only
  split
  · split
    · exact ⟨_, _, rfl⟩
    · obtain ⟨ports, e⟩ := posted (s.setLink l { s.link l with controller := none }) (linkEvent l .linkVacant none 0)
      exact ⟨ports, _, e⟩
  · exact ⟨_, _, rfl⟩

/-- The role of a controller in link `l` becomes VACANT if slot `p` has it (R34). -/
theorem vacate_link (s : State) (p : Slot) (l m : LinkId) : (s.vacate p l).link m = { s.link m with
    controller := if m = l ∧ (s.link m).controller = some p then none else (s.link m).controller } := by
  unfold State.vacate
  dsimp only
  by_cases own : m = l
  · subst own
    by_cases role : (s.link m).controller = some p
    · by_cases down : (s.link m).state = .down <;> simp [role, down]
    · simp [role]
  · by_cases role : (s.link l).controller = some p
    · by_cases down : (s.link l).state = .down <;> simp [role, down, own]
    · simp [role, own]

/-- The end of a session changes only the ports and the links once the records are given up (R159). -/
theorem endSession_rest (s : State) (p : Slot) : ∃ ports links, s.endSession p = { s.endSessionRecords p with ports, links } := by
  unfold State.endSession
  generalize s.endSessionRecords p = u
  obtain ⟨_, _, first⟩ := vacate_rest u p 0
  obtain ⟨_, _, second⟩ := vacate_rest (u.vacate p 0) p 1
  rw [second, first]
  exact ⟨_, _, rfl⟩

theorem endSession_link (s : State) (p : Slot) (l : LinkId) : (s.endSession p).link l = { (s.endSessionRecords p).link l with
    controller := if (s.link l).controller = some p then none else (s.link l).controller } := by
  have kept : ((s.endSessionRecords p).link l).controller = (s.link l).controller := by
    rw [(endSessionRecords_givenUp s p).links l]
  unfold State.endSession State.updPort
  rw [link_setPort, vacate_link, vacate_link, kept]
  obtain rfl | rfl : l = 0 ∨ l = 1 := by fin_cases l <;> simp
  · by_cases role : (s.link 0).controller = some p <;> simp [role]
  · simp

/-- The other ports take the LINK-VACANT of link 0 before that of link 1 (R34). -/
theorem endSession_port_other (s : State) {p q : Slot} (h : q ≠ p) :
    let vacant (l : LinkId) (x : HostPort) : HostPort :=
      if (s.link l).controller = some p ∧ (s.link l).state ≠ .down then x.post (linkEvent l .linkVacant none 0) else x
    (s.endSession p).port q = vacant 1 (vacant 0 (s.port q)) := by
  intro vacant
  have given := (endSessionRecords_givenUp s p).links
  have records : (s.endSessionRecords p).port q = s.port q := by simp only [State.port, endSessionRecords_ports]
  have first : ((s.endSessionRecords p).vacate p 0).port q = vacant 0 (s.port q) := by
    rw [vacate_port, records, given 0]
    simp [vacant, h]
  unfold State.endSession State.updPort
  rw [port_setPort_ne _ _ h, vacate_port, first, vacate_link, given 1]
  simp [vacant, h]

/-- What is cleared in the retransmission list of a link: the notify flags of the records that the end of the session aborts (R114). -/
theorem clearNotifyIn_aborts (s : State) (p : Slot) (l : LinkId) (e : Entry) :
    e.clearNotifyIn (allChans.filter (s.abortsOn p l)) = match e.body with
      | .data m =>
        if s.Owns p m.channel ∧ (s.chan m.channel).link = l ∧ (s.chan m.channel).state ≠ .aborting
            ∧ (s.chan m.channel).givenUp.state = .aborting then
          { e with body := .data { m with notify := false } } else e
      | .ctl _ => e := by
  unfold Entry.clearNotifyIn
  split
  · refine if_congr ?_ rfl rfl
    simp only [List.mem_filter, List.mem_finRange, allChans, true_and, State.abortsOn, decide_eq_true_eq, aborts_iff]
  · rfl

/-- Settles O30: the records one after another, then the roles, then the port of the session. -/
theorem detachEndsTheSession : Obligations.DetachEndsTheSession := by
  intro s p h st w
  have act : State.doDetach p h st s = (s.endSession p, okReply []) := rfl
  have given := endSessionRecords_givenUp s p
  have link := endSession_link s p
  have port := endSession_port_self s p
  have other {q : Slot} (hq : q ≠ p) := endSession_port_other s hq
  obtain ⟨ports, links, rest⟩ := endSession_rest s p
  refine ⟨(s.endSession p).reply p h { result := .ok } 0, congrArg settled (request_answers (row := (· == 0x02#8)) w rfl rfl rfl act), ?_⟩
  generalize s.endSession p = t at rest link port other
  generalize fold : s.endSessionRecords p = u at rest link given
  have chan (i : ChanId) : t.chan i = u.chan i := by rw [rest]; rfl
  have pool : t.pool = u.pool := by rw [rest]
  refine ⟨?_, fun q hq => ?_, fun i own => ?_, fun i other => ?_, fun records law => ?_, ?_, fun l => ?_, ?_, ?_⟩
  · rw [reply_port, port]
  · exact (port_setPort_ne _ _ hq).trans (other hq)
  · exact (chan i).trans (given.mine i (List.mem_finRange i) own)
  · have kept := given.others i fun e => other e.2
    rwa [← chan i] at kept
  · have served := endSessionRecords_served p records law
    rw [fold] at served
    obtain ⟨met, head, behind, done⟩ := served
    rw [← pool] at met head behind done
    simp only [← chan] at met head behind
    exact ⟨met, head, behind, done⟩
  · have same : u = allChans.foldl (fun u i => if u.Owns p i then u.giveUp i else u) s := fold.symm
    rw [← same]
    exact ⟨by rw [rest]; rfl, pool, fun l => by rw [← show (t.link l).ready = (u.link l).ready by rw [link]]; rfl⟩
  · have k : (t.reply p h { result := .ok } 0).link l = t.link l := rfl
    rw [k, link l, given.links l]
    exact congrArg (fun r => { s.link l with
      controller := if (s.link l).controller = some p then none else (s.link l).controller, rtx := r, ready := (u.link l).ready })
      (List.map_congr_left fun e _ => clearNotifyIn_aborts s p l e)
  · intro aborts tx rx
    have msgs : tx = allChans.flatMap (s.givenMsgsOf p) :=
      List.flatMap_congr fun i _ => by simp only [aborts, State.givenMsgsOf, Chan.givenMsgs, ite_and]
    have held : rx = (allChans.map (s.givenHeldOf p)).sum :=
      congrArg List.sum (List.map_congr_left fun i _ => by simp only [aborts, State.givenHeldOf, Chan.givenHeld, ← and_or_left, ite_and])
    have after : (t.reply p h { result := .ok } 0).pool = u.pool := pool
    rw [after, msgs, held]
    exact ⟨given.free, given.usage, given.rx, fun i ⟨own, live⟩ => given.off i (List.mem_finRange i) own live⟩
  · obtain ⟨resetLow, freeCount, pending⟩ := given.model
    have lines := given.lines
    rw [rest]
    exact ⟨lines, resetLow, freeCount, pending⟩

end Sys2Proof.Machine
end

section
/-! SUPPORT. While RESET is low every block stays at its state after device reset (R169), command by command: a held part takes no
transaction, samples and sends on no line and has no timer running, so that only the levels of its input pins change; and no command but
DEVICE_RESET takes RESET low. -/

namespace Sys2Proof.Machine

/-! ## The blocks of a held part -/

/-- While RESET is high the law asks nothing. -/
theorem State.resetOk_of_high {s : State} (high : s.resetLow = false) : s.ResetOk := fun low => absurd (low.symm.trans high) nofun

/-- With every line port disabled there is no transmit opportunity (R73, R137). -/
theorem settle_disabled {s : State} (off : ∀ l, (s.line l).enabled = false) : s.settle = s := by
  simp [State.settle, State.arbitrate, off]

namespace State.ResetOk
variable {s u : State} {p : Slot} {l : LinkId}

theorem link_eq (h : s.ResetOk) (low : s.resetLow = true) (l : LinkId) : s.link l = {} := by
  obtain ⟨-, -, links, -, -⟩ := h low
  simp only [State.link, links]
  exact reset_link l

theorem line_eq (h : s.ResetOk) (low : s.resetLow = true) (l : LinkId) : s.line l = { lrdy := (s.line l).lrdy } := by
  obtain ⟨-, -, -, lines, -⟩ := h low
  exact lines l

theorem port_eq (h : s.ResetOk) (low : s.resetLow = true) (p : Slot) : s.port p = (s.port p).held := by
  obtain ⟨-, -, -, -, ports⟩ := h low
  exact ports p

theorem disabled (h : s.ResetOk) (low : s.resetLow = true) (l : LinkId) : (s.line l).enabled = false := by rw [h.line_eq low l]

/-- A port held by device reset in the place of a port. -/
theorem setPort (h : s.ResetOk) {x : HostPort} (held : s.resetLow = true → x = x.held) : (s.setPort p x).ResetOk := by
  intro low
  obtain ⟨chans, pool, links, lines, ports⟩ := h low
  refine ⟨chans, pool, links, lines, fun q => ?_⟩
  rw [port_setPort_ite]
  split
  · exact held low
  · exact ports q

/-- While RESET is low the levels of the pins of a port change (R169). -/
theorem setPins (h : s.ResetOk) (low : s.resetLow = true) (csLow hrstLow : Bool) :
    (s.setPort p { s.port p with csLow, hrstLow }).ResetOk := by
  refine h.setPort fun _ => ?_
  rw [h.port_eq low p]
  rfl

/-- A disabled port follows the level of LRDYn and keeps no sample (R137, R147). -/
theorem keepSample (h : s.ResetOk) (l : LinkId) (v : Bool) : (s.keepSample l v).ResetOk := by
  intro low
  obtain ⟨chans, pool, links, lines, ports⟩ := h low
  refine ⟨chans, pool, links, fun m => ?_, ports⟩
  unfold State.keepSample
  rw [line_setLine_ite]
  split
  · rw [sampled_disabled (h.disabled low l), lines l]
  · exact lines m

/-- A held part has nothing to send (R73, R137). -/
theorem settle (h : s.ResetOk) : s.settle.ResetOk := by
  intro low
  have before : s.resetLow = true := (PortsHear.refl s).settle.1.symm.trans low
  rw [settle_disabled (h.disabled before)]
  exact h before

theorem yields_settled {o : StepOutcome} (ho : Yields o State.ResetOk) : Yields (settled o) State.ResetOk :=
  Machine.yields_settled (fun _ => settle) ho

/-! ## Commands that leave RESET -/

/-- A command that leaves RESET as it is, and does nothing while it is low. -/
theorem yields_heard {o : StepOutcome} (h : s.ResetOk) (heard : Yields o (PortsHear s)) (held : s.resetLow = true → Yields o (· = s)) :
    Yields o State.ResetOk := by
  intro t ht
  cases reset : s.resetLow with
  | false => exact resetOk_of_high ((heard t ht).1.trans reset)
  | true => exact held reset t ht ▸ h

/-- A command that ends a transaction: a held port takes nothing (R169), and otherwise RESET stays high. -/
theorem endTransaction {n : Nat} {act : Txn → Option State} (h : s.ResetOk)
    (ha : ∀ t u, act t = some u → u.resetLow = s.resetLow) : Yields (s.endTransaction p n act) State.ResetOk := by
  have ignored : (s.riseIgnored p n).ResetOk := by
    refine h.setPort fun low => ?_
    have silent : s.portLive p = false := by simp [State.portLive, low]
    rw [h.port_eq low p, silent]
    rfl
  unfold State.endTransaction
  split
  · exact yields_refused _
  split
  · exact yields_next ignored
  next takes =>
    simp only [Bool.or_eq_true, Bool.not_eq_true', not_or, Bool.not_eq_false] at takes
    obtain ⟨live, -⟩ := takes
    split
    · exact yields_next (resetOk_of_high ((ha _ _ ‹_›).trans (State.portLive_iff.mp live).1))
    · exact yields_refused _

/-- A command that completes bytes inside a transaction: a held port takes none (R169), and otherwise RESET stays high. -/
theorem midTransaction {n : Nat} {act : Txn → Option State} (h : s.ResetOk)
    (ha : ∀ t u, act t = some u → u.resetLow = s.resetLow) : Yields (s.midTransaction p n act) State.ResetOk := by
  unfold State.midTransaction
  dsimp only
  split
  · exact yields_next h
  next takes =>
    simp only [Bool.or_eq_true, Bool.not_eq_true', not_or, Bool.not_eq_false] at takes
    obtain ⟨-, live⟩ := takes
    have high := (State.portLive_iff.mp live).1
    split
    · exact yields_next (resetOk_of_high high)
    split
    · exact yields_next (resetOk_of_high ((ha _ _ ‹_›).trans high))
    · exact yields_refused _

/-- A request answered leaves RESET as its command leaves it (R154). -/
theorem answerRequest_resetLow {hd : ReqHeader} {st : Staging} {body : List Byte} {act : Action}
    (ha : (act hd st s).1.resetLow = s.resetLow) : (s.answerRequest p hd st body act).resetLow = s.resetLow := by
  unfold State.answerRequest
  dsimp only [State.updPort, State.rise, State.setPort]
  split
  · exact ((PortsHear.refl s).freeStaged p st).1
  · exact ha

/-- A request whose command leaves RESET (R154). -/
theorem request {row : Byte → Bool} {body : List Byte} {act : Action} (h : s.ResetOk)
    (ha : ∀ hd st, (act hd st s).1.resetLow = s.resetLow) : Yields (s.request p row body act) State.ResetOk := by
  refine h.endTransaction fun t u hu => ?_
  split at hu
  · next hd st =>
    obtain ⟨-, hu⟩ := Option.ite_none_right_eq_some.mp hu
    cases hu
    exact answerRequest_resetLow (ha hd st)
  · cases hu

theorem requestHeard {row : Byte → Bool} {body : List Byte} {act : Action} (h : s.ResetOk)
    (ha : ∀ hd st, PortsHear s (act hd st s).1) : Yields (s.request p row body act) State.ResetOk :=
  h.request fun hd st => (ha hd st).1

theorem execAttach (h : s.ResetOk) (body : List Byte) : Yields (Machine.execAttach p body s) State.ResetOk := by
  refine h.request fun _ _ => ?_
  unfold State.doAttach
  split <;> rfl

theorem execDetach (h : s.ResetOk) (body : List Byte) : Yields (Machine.execDetach p body s) State.ResetOk := by
  refine yields_settled (h.request fun _ _ => ?_)
  obtain ⟨w, heard, ends⟩ := endSession_hears s p
  exact (congrArg State.resetLow ends).trans heard.1

/-! ## Transactions without a request -/

theorem execTransactionCode (h : s.ResetOk) (code : Byte) : Yields (Machine.execTransactionCode p code s) State.ResetOk := by
  refine h.midTransaction fun t u e => ?_
  split at e <;> cases e
  rfl

theorem execWriteRequestHeader (h : s.ResetOk) (tag code : Byte) (len : Byte × Byte) :
    Yields (Machine.execWriteRequestHeader p tag code len s) State.ResetOk := by
  unfold Machine.execWriteRequestHeader
  dsimp only
  refine h.midTransaction fun t u e => ?_
  split at e
  · split at e <;> cases e
    · rfl
    · exact (stagingClaim_hears s p _ _).1
  · cases e

theorem execStatusTransaction (h : s.ResetOk) (n : Nat) : Yields (Machine.execStatusTransaction p n s) State.ResetOk := by
  refine h.endTransaction fun t u e => ?_
  split at e <;> cases e
  rfl

theorem execIgnoredTransactionEnd (h : s.ResetOk) (n : Nat) : Yields (Machine.execIgnoredTransactionEnd p n s) State.ResetOk := by
  refine h.endTransaction fun t u e => ?_
  split at e <;> cases e <;> rfl

theorem execReadResponse (h : s.ResetOk) (n : Nat) : Yields (Machine.execReadResponse p n s) State.ResetOk := by
  refine yields_settled (h.endTransaction fun t u e => ?_)
  split at e
  · cases e; rfl
  · next r =>
    cases e
    split
    · obtain ⟨w, heard, -, rises, -⟩ := removeResponse_rise s p r (firstOf n r.bytes)
      exact (congrArg State.resetLow rises).trans heard.1
    · rfl
  · cases e

theorem execReadEvent (h : s.ResetOk) (n : Nat) : Yields (Machine.execReadEvent p n s) State.ResetOk := by
  refine h.endTransaction fun t u e => ?_
  split at e <;> cases e
  · rfl
  · split <;> rfl

/-! ## Edges of the pins -/

theorem execChipSelectFalls (h : s.ResetOk) : Yields (Machine.execChipSelectFalls p s) State.ResetOk := by
  unfold Machine.execChipSelectFalls
  dsimp only
  split
  · exact yields_refused _
  split
  · next low => exact yields_next (h.setPins low true _)
  next running =>
  split
  all_goals exact yields_next (resetOk_of_high (eq_false_of_ne_true running))

theorem execHostPortReset (h : s.ResetOk) : Yields (Machine.execHostPortReset p s) State.ResetOk := by
  unfold Machine.execHostPortReset
  split
  · next low => exact yields_next (h.setPins low _ true)
  · next running =>
    obtain ⟨w, heard, resets⟩ := PortsOk.resetPort_hears s p
    have high : (s.resetPort p).resetLow = false :=
      (congrArg State.resetLow resets).trans (heard.1.trans (eq_false_of_ne_true running))
    exact yields_next (resetOk_of_high high).settle

theorem execHostPortResetRelease (h : s.ResetOk) : Yields (Machine.execHostPortResetRelease p s) State.ResetOk := by
  unfold Machine.execHostPortResetRelease
  split
  · exact yields_refused _
  split
  · next low => exact yields_next (h.setPins low _ false)
  · next running => exact yields_next (resetOk_of_high (eq_false_of_ne_true running))

/-- DEVICE_RESET takes every block to its state after device reset, from whatever state (R169). -/
theorem execDeviceReset : Yields (Machine.execDeviceReset s) State.ResetOk :=
  yields_next fun _ => ⟨rfl, rfl, rfl, fun l => by simp [State.line, LinePort.deviceHeld], fun p => by simp [State.port, HostPort.held]⟩

theorem execDeviceResetRelease : Yields (Machine.execDeviceResetRelease s) State.ResetOk := by
  unfold Machine.execDeviceResetRelease
  split
  · exact yields_next (resetOk_of_high rfl)
  · exact yields_refused _

/-- No loss of line-ready is reported from a disabled port (R147). -/
theorem execLineReadyDeasserted (h : s.ResetOk) : Yields (Machine.execLineReadyDeasserted l s) State.ResetOk := by
  have sampled : PortsHear s (s.keepSample l false) := .refl s
  unfold Machine.execLineReadyDeasserted
  dsimp only
  split
  · next reported =>
    have high : s.resetLow = false :=
      eq_false_of_ne_true fun low => absurd (reported.1.symm.trans (h.disabled low l)) nofun
    exact yields_next (resetOk_of_high ((sampled.lineLost l).1.trans high)).settle
  · exact yields_next (h.keepSample l false)

/-! ## Line events, received frames and expiries -/

/-- A disabled port receives nothing (R137). -/
theorem receiveLevels (h : s.ResetOk) (l : LinkId) (levels : List Bool) : (s.receiveLevels l levels).ResetOk :=
  h.yields_heard (yields_next ((PortsHear.refl s).receiveLevels l levels))
    (fun low => yields_next (receiveLevels_disabled (h.disabled low l) levels)) _ rfl

/-- A held port holds no frame to take (R137, R146). -/
theorem takeHeld {act : Frame → Option (State → State)} (h : s.ResetOk) (heard : Yields (s.takeHeld l act) (PortsHear s)) :
    Yields (s.takeHeld l act) State.ResetOk := by
  refine h.yields_heard heard fun low => ?_
  unfold State.takeHeld
  rw [h.line_eq low l]
  exact yields_refused _

/-- A held port has an empty transmit buffer (R137, R140). -/
theorem execTransmitComplete (h : s.ResetOk) : Yields (Machine.execTransmitComplete l s) State.ResetOk := by
  refine h.yields_heard (.execTransmitComplete s l) fun low => ?_
  unfold Machine.execTransmitComplete
  rw [h.line_eq low l]
  exact yields_refused _

theorem execTruncationComplete (h : s.ResetOk) : Yields (Machine.execTruncationComplete l s) State.ResetOk := by
  refine h.yields_heard (.execTruncationComplete s l) fun low => ?_
  unfold Machine.execTruncationComplete
  rw [h.line_eq low l]
  exact yields_refused _

/-- An expiry, by the timer that it is of: after device reset none is running (R27). -/
theorem expiry {timer : Link → Option Nat} {u : State} (h : s.ResetOk) (stopped : timer {} = none)
    (heard : Yields (if due (timer (s.link l)) then .next u else .next s) (PortsHear s)) :
    Yields (if due (timer (s.link l)) then .next u else .next s) State.ResetOk := by
  refine h.yields_heard heard fun low => ?_
  rw [h.link_eq low l, stopped]
  exact yields_next rfl

/-! ## The rows of the table -/

/-- Every command keeps the law of device reset. -/
theorem exec (h : s.ResetOk) (c : Instr) : Yields (Machine.exec c s) State.ResetOk := by
  cases c with
  | attach p body => exact h.execAttach body
  | detach p body => exact h.execDetach body
  | linkStart p body => exact yields_settled (h.requestHeard (.doLinkStart s p body))
  | linkStop p body => exact yields_settled (h.requestHeard (.doLinkStop s p body))
  | linkClaim p body => exact (h.requestHeard (.doLinkClaim s p body) : Yields (Machine.execLinkClaim p body s) _)
  | linkQuery p body => exact (h.requestHeard (.doLinkQuery s body) : Yields (Machine.execLinkQuery p body s) _)
  | chListen p body => exact (h.requestHeard (.doChListen s p body) : Yields (Machine.execChListen p body s) _)
  | chOpen p body => exact yields_settled (h.requestHeard (.doChOpen s p body))
  | chClose p body => exact yields_settled (h.requestHeard (.doChClose s p body))
  | chRelease p body => exact yields_settled (h.requestHeard (.doChRelease s p body))
  | chQuery p body => exact (h.requestHeard (.doChQuery s body) : Yields (Machine.execChQuery p body s) _)
  | send p body => exact yields_settled (h.requestHeard (.doSend s p body))
  | recv p body => exact yields_settled (h.requestHeard (.doRecv s p body))
  | poolQuery p body => exact (h.request fun _ _ => rfl : Yields (Machine.execPoolQuery p body s) _)
  | unknownCommand p body => exact (h.request fun _ _ => rfl : Yields (Machine.execUnknownCommand p body s) _)
  | transactionCode p code => exact h.execTransactionCode code
  | statusTransaction p n => exact h.execStatusTransaction n
  | writeRequestHeader p tag code len => exact h.execWriteRequestHeader tag code len
  | readResponse p n => exact h.execReadResponse n
  | readEvent p n => exact h.execReadEvent n
  | ignoredTransactionEnd p n => exact h.execIgnoredTransactionEnd n
  | chipSelectFalls p => exact h.execChipSelectFalls
  | hostPortReset p => exact h.execHostPortReset
  | hostPortResetRelease p => exact h.execHostPortResetRelease
  | deviceReset => exact execDeviceReset
  | deviceResetRelease => exact execDeviceResetRelease
  | lineReadyDeasserted l => exact h.execLineReadyDeasserted
  | lineReadyAsserted l => exact yields_next (h.keepSample l true)
  | frameBodyStart l b => exact yields_next (h.receiveLevels l _)
  | frameEnd l | huntDelimiter l => exact yields_next (h.receiveLevels l _)
  | bodyCharacter l levels => exact yields_next (h.receiveLevels l levels)
  | transmitComplete l => exact h.execTransmitComplete
  | truncationComplete l => exact h.execTruncationComplete
  | linkOpen l => exact h.takeHeld .execLinkOpen
  | linkAccept l => exact h.takeHeld .execLinkAccept
  | linkClose l => exact h.takeHeld .execLinkClose
  | linkClosed l => exact h.takeHeld .execLinkClosed
  | status l => exact h.takeHeld .execStatus
  | resend l => exact h.takeHeld .execResend
  | data l => exact h.takeHeld .execData
  | chanOpen l => exact h.takeHeld .execChanOpen
  | chanAccept l => exact h.takeHeld .execChanAccept
  | chanRefuse l => exact h.takeHeld .execChanRefuse
  | chanClose l => exact h.takeHeld .execChanClose
  | chanClosed l => exact h.takeHeld .execChanClosed
  | chanCredit l => exact h.takeHeld .execChanCredit
  | tAckExpiry l => exact h.expiry (timer := Link.tAck) rfl (.execTAckExpiry s l)
  | tRespExpiry l => exact h.expiry (timer := Link.tResp) rfl (.execTRespExpiry s l)
  | tIdleExpiry l => exact h.expiry (timer := Link.tIdle) rfl (.execTIdleExpiry s l)

end State.ResetOk

/-- Settles O11: every command keeps the law, and the time base does not tick while RESET is low. -/
theorem stepKeepsReset : Obligations.StepKeepsReset := by
  intro s t h ht
  unfold step at ht
  split at ht
  · next c rest _ =>
    have waiting : ({ s with pending := rest } : State).ResetOk := h
    exact waiting.exec c t ht
  · cases ht
    exact h.yields_heard (yields_next (.tick s)) (fun low => yields_next (tick_resetLow low)) _ rfl

end Sys2Proof.Machine
end
